-- ==== Sys2Proof/Word.lean ====
section
/-! DEFINITION. The machine's words: plain names for the bit-vector widths the spec uses. -/

namespace Sys2Proof

/-- A 64-bit register, program counter or virtual address (`XLEN`, `PCW`: 00_scope.md R5). -/
abbrev Word := BitVec 64

/-- A 32-bit instruction word (`ILEN`: 00_scope.md R5). -/
abbrev InstrWord := BitVec 32

/-- A 16-bit compressed halfword (30_encoding.md R43). -/
abbrev Half := BitVec 16

/-- A byte of the external memory. -/
abbrev Byte := BitVec 8

/-- A register index, 0 to 31 (30_encoding.md R45). -/
abbrev RegIdx := BitVec 5

/-- The raw 16-bit immediate field (30_encoding.md R44). -/
abbrev Imm16 := BitVec 16

end Sys2Proof
end

