-- ==== Sys2Proof/Config.lean ====
section
/-! DEFINITION. What is fixed for an instance: the Processor Model Descriptor and byte order (10_state.md R9, R17),
and the open parameters of the spec as constants without a body (00_scope.md R5). -/

namespace Sys2Proof

/-- The ISA level of a descriptor: one of 1, 2, 3, 4, 32, 64 (10_state.md R9). -/
inductive IsaLevel where
  | l1 | l2 | l3 | l4 | l32 | l64
  deriving DecidableEq, Repr

/-- The ISA revision of a descriptor: 1 or 2 (10_state.md R9). -/
inductive IsaRevision where
  | r1 | r2
  deriving DecidableEq, Repr

/-- The processor variant. The source names Standard and R5900 and leaves the list open (00_scope.md R2, R5);
`other` tags a variant the source does not name (log 24). -/
inductive Variant where
  | standard
  | r5900
  | other (tag : Nat)
  deriving DecidableEq, Repr

/-- The bit width of a processor, 32 or 64 (10_state.md R11). -/
inductive BitWidth where
  | w32 | w64
  deriving DecidableEq, Repr

/-- The byte order of an instance (10_state.md R17). -/
inductive Endian where
  | big | little
  deriving DecidableEq, Repr

/-- The Processor Model Descriptor (10_state.md R9). -/
structure Descriptor where
  name        : String
  isaLevel    : IsaLevel
  isaRevision : IsaRevision
  variant     : Variant
  deriving DecidableEq, Repr

/-- The processor model of `State.reset`. DESIGN CHOICE (unsafe, log 4): the spec lists no catalog record
(00_scope.md R5 `Catalog` OPEN); level 64 is one on which every row of the default `OpMap` is legal. -/
def Config.referenceModel : Descriptor :=
  { name := "model", isaLevel := .l64, isaRevision := .r1, variant := .standard }

/-- The byte order of `State.reset`. DESIGN CHOICE (unsafe, log 5): `Endian` is an instance parameter
(00_scope.md R5); big-endian is the one order the source gives an example of (20_memory.md R29). -/
def Config.referenceEndian : Endian := .big

/-- The static catalog, OPEN (00_scope.md R5; 92_eei_decisions.md D23). -/
opaque Config.catalog : List Descriptor

/-- The catalog's documented default model name, OPEN (00_scope.md R5; D23). -/
opaque Config.defaultModel : String

/-- The display name of register 0, which a model must not assume (30_encoding.md R51). -/
opaque Config.gprName0 : String

/-- The display name of register 30, which a model must not assume (30_encoding.md R51). -/
opaque Config.gprName30 : String

/-- The hexadecimal text of an immediate: digit case and padding are not given (30_encoding.md R60; N8). -/
opaque Config.hexText : Nat → String

/-- The text of a branch or jump target: "the computed target address" in no given number format (30_encoding.md R60). -/
opaque Config.targetText : Nat → String

/-- The name in the Disassembler's placeholder for a compressed halfword, not given (91_not_in_source.md N19). -/
opaque Config.compressedName : String

/-- The page size, fixed 4096 (10_state.md R16). -/
def Config.pageSize : Nat := 4096

end Sys2Proof
end

