-- ==== Sys2Proof/Syntax.lean ====
section
/-! DEFINITION. The instructions: one constructor per row of spec/opcode_table.json, with every field the row leaves
free. Which constructor stands for which mnemonic of the table is LAWS.json's map. -/

namespace Sys2Proof

/-- The instructions of the opcode maps (30_encoding.md R52 to R54, R58, R59, R61). A field the instruction's
operation ignores is kept, so that no bit of a word is lost. -/
inductive Instr where
  /-- SLL: SPECIAL function 0 (30_encoding.md R53). -/
  | sll (rs rt rd : RegIdx) (sa : BitVec 5)
  /-- MOVCI: SPECIAL function 1 (30_encoding.md R53). -/
  | movci (rs rt rd : RegIdx) (sa : BitVec 5)
  /-- SRL: SPECIAL function 2 (30_encoding.md R53). -/
  | srl (rs rt rd : RegIdx) (sa : BitVec 5)
  /-- SRA: SPECIAL function 3 (30_encoding.md R53). -/
  | sra (rs rt rd : RegIdx) (sa : BitVec 5)
  /-- SLLV: SPECIAL function 4 (30_encoding.md R53). -/
  | sllv (rs rt rd : RegIdx) (sa : BitVec 5)
  /-- SRLV: SPECIAL function 6 (30_encoding.md R53). -/
  | srlv (rs rt rd : RegIdx) (sa : BitVec 5)
  /-- SRAV: SPECIAL function 7 (30_encoding.md R53). -/
  | srav (rs rt rd : RegIdx) (sa : BitVec 5)
  /-- JR: SPECIAL function 8 (30_encoding.md R53). -/
  | jr (rs rt rd : RegIdx) (sa : BitVec 5)
  /-- JALR: SPECIAL function 9 (30_encoding.md R53). -/
  | jalr (rs rt rd : RegIdx) (sa : BitVec 5)
  /-- MOVZ: SPECIAL function 10 (30_encoding.md R53). -/
  | movz (rs rt rd : RegIdx) (sa : BitVec 5)
  /-- MOVN: SPECIAL function 11 (30_encoding.md R53). -/
  | movn (rs rt rd : RegIdx) (sa : BitVec 5)
  /-- SYSCALL: SPECIAL function 12 (30_encoding.md R53). -/
  | syscall (rs rt rd : RegIdx) (sa : BitVec 5)
  /-- BREAK: SPECIAL function 13 (30_encoding.md R53). -/
  | brk (rs rt rd : RegIdx) (sa : BitVec 5)
  /-- SYNC: SPECIAL function 15 (30_encoding.md R53). -/
  | sync (rs rt rd : RegIdx) (sa : BitVec 5)
  /-- MFHI: SPECIAL function 16 (30_encoding.md R53). -/
  | mfhi (rs rt rd : RegIdx) (sa : BitVec 5)
  /-- MTHI: SPECIAL function 17 (30_encoding.md R53). -/
  | mthi (rs rt rd : RegIdx) (sa : BitVec 5)
  /-- MFLO: SPECIAL function 18 (30_encoding.md R53). -/
  | mflo (rs rt rd : RegIdx) (sa : BitVec 5)
  /-- MTLO: SPECIAL function 19 (30_encoding.md R53). -/
  | mtlo (rs rt rd : RegIdx) (sa : BitVec 5)
  /-- DSLLV: SPECIAL function 20 (30_encoding.md R53). -/
  | dsllv (rs rt rd : RegIdx) (sa : BitVec 5)
  /-- DSRLV: SPECIAL function 22 (30_encoding.md R53). -/
  | dsrlv (rs rt rd : RegIdx) (sa : BitVec 5)
  /-- DSRAV: SPECIAL function 23 (30_encoding.md R53). -/
  | dsrav (rs rt rd : RegIdx) (sa : BitVec 5)
  /-- MULT: SPECIAL function 24 (30_encoding.md R53). -/
  | mult (rs rt rd : RegIdx) (sa : BitVec 5)
  /-- MULTU: SPECIAL function 25 (30_encoding.md R53). -/
  | multu (rs rt rd : RegIdx) (sa : BitVec 5)
  /-- DIV: SPECIAL function 26 (30_encoding.md R53). -/
  | div (rs rt rd : RegIdx) (sa : BitVec 5)
  /-- DIVU: SPECIAL function 27 (30_encoding.md R53). -/
  | divu (rs rt rd : RegIdx) (sa : BitVec 5)
  /-- DMULT: SPECIAL function 28 (30_encoding.md R53). -/
  | dmult (rs rt rd : RegIdx) (sa : BitVec 5)
  /-- DMULTU: SPECIAL function 29 (30_encoding.md R53). -/
  | dmultu (rs rt rd : RegIdx) (sa : BitVec 5)
  /-- DDIV: SPECIAL function 30 (30_encoding.md R53). -/
  | ddiv (rs rt rd : RegIdx) (sa : BitVec 5)
  /-- DDIVU: SPECIAL function 31 (30_encoding.md R53). -/
  | ddivu (rs rt rd : RegIdx) (sa : BitVec 5)
  /-- ADD: SPECIAL function 32 (30_encoding.md R53). -/
  | add (rs rt rd : RegIdx) (sa : BitVec 5)
  /-- ADDU: SPECIAL function 33 (30_encoding.md R53). -/
  | addu (rs rt rd : RegIdx) (sa : BitVec 5)
  /-- SUB: SPECIAL function 34 (30_encoding.md R53). -/
  | sub (rs rt rd : RegIdx) (sa : BitVec 5)
  /-- SUBU: SPECIAL function 35 (30_encoding.md R53). -/
  | subu (rs rt rd : RegIdx) (sa : BitVec 5)
  /-- AND: SPECIAL function 36 (30_encoding.md R53). -/
  | and (rs rt rd : RegIdx) (sa : BitVec 5)
  /-- OR: SPECIAL function 37 (30_encoding.md R53). -/
  | or (rs rt rd : RegIdx) (sa : BitVec 5)
  /-- XOR: SPECIAL function 38 (30_encoding.md R53). -/
  | xor (rs rt rd : RegIdx) (sa : BitVec 5)
  /-- NOR: SPECIAL function 39 (30_encoding.md R53). -/
  | nor (rs rt rd : RegIdx) (sa : BitVec 5)
  /-- SLT: SPECIAL function 42 (30_encoding.md R53). -/
  | slt (rs rt rd : RegIdx) (sa : BitVec 5)
  /-- SLTU: SPECIAL function 43 (30_encoding.md R53). -/
  | sltu (rs rt rd : RegIdx) (sa : BitVec 5)
  /-- DADD: SPECIAL function 44 (30_encoding.md R53). -/
  | dadd (rs rt rd : RegIdx) (sa : BitVec 5)
  /-- DADDU: SPECIAL function 45 (30_encoding.md R53). -/
  | daddu (rs rt rd : RegIdx) (sa : BitVec 5)
  /-- DSUB: SPECIAL function 46 (30_encoding.md R53). -/
  | dsub (rs rt rd : RegIdx) (sa : BitVec 5)
  /-- DSUBU: SPECIAL function 47 (30_encoding.md R53). -/
  | dsubu (rs rt rd : RegIdx) (sa : BitVec 5)
  /-- TGE: SPECIAL function 48 (30_encoding.md R53). -/
  | tge (rs rt rd : RegIdx) (sa : BitVec 5)
  /-- TGEU: SPECIAL function 49 (30_encoding.md R53). -/
  | tgeu (rs rt rd : RegIdx) (sa : BitVec 5)
  /-- TLT: SPECIAL function 50 (30_encoding.md R53). -/
  | tlt (rs rt rd : RegIdx) (sa : BitVec 5)
  /-- TLTU: SPECIAL function 51 (30_encoding.md R53). -/
  | tltu (rs rt rd : RegIdx) (sa : BitVec 5)
  /-- TEQ: SPECIAL function 52 (30_encoding.md R53). -/
  | teq (rs rt rd : RegIdx) (sa : BitVec 5)
  /-- TNE: SPECIAL function 54 (30_encoding.md R53). -/
  | tne (rs rt rd : RegIdx) (sa : BitVec 5)
  /-- DSLL: SPECIAL function 56 (30_encoding.md R53). -/
  | dsll (rs rt rd : RegIdx) (sa : BitVec 5)
  /-- DSRL: SPECIAL function 58 (30_encoding.md R53). -/
  | dsrl (rs rt rd : RegIdx) (sa : BitVec 5)
  /-- DSRA: SPECIAL function 59 (30_encoding.md R53). -/
  | dsra (rs rt rd : RegIdx) (sa : BitVec 5)
  /-- DSLL32: SPECIAL function 60 (30_encoding.md R53). -/
  | dsll32 (rs rt rd : RegIdx) (sa : BitVec 5)
  /-- DSRL32: SPECIAL function 62 (30_encoding.md R53). -/
  | dsrl32 (rs rt rd : RegIdx) (sa : BitVec 5)
  /-- DSRA32: SPECIAL function 63 (30_encoding.md R53). -/
  | dsra32 (rs rt rd : RegIdx) (sa : BitVec 5)
  /-- BLTZ: REGIMM code 0 (30_encoding.md R54). -/
  | bltz (rs : RegIdx) (imm : Imm16)
  /-- BGEZ: REGIMM code 1 (30_encoding.md R54). -/
  | bgez (rs : RegIdx) (imm : Imm16)
  /-- BLTZL: REGIMM code 2 (30_encoding.md R54). -/
  | bltzl (rs : RegIdx) (imm : Imm16)
  /-- BGEZL: REGIMM code 3 (30_encoding.md R54). -/
  | bgezl (rs : RegIdx) (imm : Imm16)
  /-- TGEI: REGIMM code 8 (30_encoding.md R54). -/
  | tgei (rs : RegIdx) (imm : Imm16)
  /-- TGEIU: REGIMM code 9 (30_encoding.md R54). -/
  | tgeiu (rs : RegIdx) (imm : Imm16)
  /-- TLTI: REGIMM code 10 (30_encoding.md R54). -/
  | tlti (rs : RegIdx) (imm : Imm16)
  /-- TLTIU: REGIMM code 11 (30_encoding.md R54). -/
  | tltiu (rs : RegIdx) (imm : Imm16)
  /-- TEQI: REGIMM code 12 (30_encoding.md R54). -/
  | teqi (rs : RegIdx) (imm : Imm16)
  /-- TNEI: REGIMM code 14 (30_encoding.md R54). -/
  | tnei (rs : RegIdx) (imm : Imm16)
  /-- BLTZAL: REGIMM code 16 (30_encoding.md R54). -/
  | bltzal (rs : RegIdx) (imm : Imm16)
  /-- BGEZAL: REGIMM code 17 (30_encoding.md R54). -/
  | bgezal (rs : RegIdx) (imm : Imm16)
  /-- BLTZALL: REGIMM code 18 (30_encoding.md R54). -/
  | bltzall (rs : RegIdx) (imm : Imm16)
  /-- BGEZALL: REGIMM code 19 (30_encoding.md R54). -/
  | bgezall (rs : RegIdx) (imm : Imm16)
  /-- SYNCI: REGIMM code 31 (30_encoding.md R54). -/
  | synci (rs : RegIdx) (imm : Imm16)
  /-- J: primary 2 (30_encoding.md R52). -/
  | j (target : BitVec 26)
  /-- JAL: primary 3 (30_encoding.md R52). -/
  | jal (target : BitVec 26)
  /-- BEQ: primary 4 (30_encoding.md R52). -/
  | beq (rs rt : RegIdx) (imm : Imm16)
  /-- BNE: primary 5 (30_encoding.md R52). -/
  | bne (rs rt : RegIdx) (imm : Imm16)
  /-- BLEZ: primary 6 (30_encoding.md R52). -/
  | blez (rs rt : RegIdx) (imm : Imm16)
  /-- BGTZ: primary 7 (30_encoding.md R52). -/
  | bgtz (rs rt : RegIdx) (imm : Imm16)
  /-- ADDI: primary 8 (30_encoding.md R52). -/
  | addi (rs rt : RegIdx) (imm : Imm16)
  /-- ADDIU: primary 9 (30_encoding.md R52). -/
  | addiu (rs rt : RegIdx) (imm : Imm16)
  /-- SLTI: primary 10 (30_encoding.md R52). -/
  | slti (rs rt : RegIdx) (imm : Imm16)
  /-- SLTIU: primary 11 (30_encoding.md R52). -/
  | sltiu (rs rt : RegIdx) (imm : Imm16)
  /-- ANDI: primary 12 (30_encoding.md R52). -/
  | andi (rs rt : RegIdx) (imm : Imm16)
  /-- ORI: primary 13 (30_encoding.md R52). -/
  | ori (rs rt : RegIdx) (imm : Imm16)
  /-- XORI: primary 14 (30_encoding.md R52). -/
  | xori (rs rt : RegIdx) (imm : Imm16)
  /-- LUI: primary 15 (30_encoding.md R52). -/
  | lui (rs rt : RegIdx) (imm : Imm16)
  /-- COP0_group: primary 16 (30_encoding.md R52). -/
  | cop0 (rs rt rd : RegIdx) (sa : BitVec 5) (funct : BitVec 6)
  /-- COP1_group: primary 17 (30_encoding.md R52). -/
  | cop1 (rs rt rd : RegIdx) (sa : BitVec 5) (funct : BitVec 6)
  /-- COP2_group: primary 18 (30_encoding.md R52). -/
  | cop2 (rs rt rd : RegIdx) (sa : BitVec 5) (funct : BitVec 6)
  /-- COP1X_group: primary 19 (30_encoding.md R52). -/
  | cop1x (rs rt rd : RegIdx) (sa : BitVec 5) (funct : BitVec 6)
  /-- BEQL: primary 20 (30_encoding.md R52). -/
  | beql (rs rt : RegIdx) (imm : Imm16)
  /-- BNEL: primary 21 (30_encoding.md R52). -/
  | bnel (rs rt : RegIdx) (imm : Imm16)
  /-- BLEZL: primary 22 (30_encoding.md R52). -/
  | blezl (rs rt : RegIdx) (imm : Imm16)
  /-- BGTZL: primary 23 (30_encoding.md R52). -/
  | bgtzl (rs rt : RegIdx) (imm : Imm16)
  /-- DADDI: primary 24 (30_encoding.md R52). -/
  | daddi (rs rt : RegIdx) (imm : Imm16)
  /-- DADDIU: primary 25 (30_encoding.md R52). -/
  | daddiu (rs rt : RegIdx) (imm : Imm16)
  /-- LDL: primary 26 (30_encoding.md R52). -/
  | ldl (rs rt : RegIdx) (imm : Imm16)
  /-- LDR: primary 27 (30_encoding.md R52). -/
  | ldr (rs rt : RegIdx) (imm : Imm16)
  /-- SPECIAL2_group: primary 28 (30_encoding.md R52). -/
  | special2 (rs rt rd : RegIdx) (sa : BitVec 5) (funct : BitVec 6)
  /-- JALX: primary 29 (30_encoding.md R52). -/
  | jalx (target : BitVec 26)
  /-- SPECIAL3_group: primary 31 (30_encoding.md R52). -/
  | special3 (rs rt rd : RegIdx) (sa : BitVec 5) (funct : BitVec 6)
  /-- LB: primary 32 (30_encoding.md R52). -/
  | lb (rs rt : RegIdx) (imm : Imm16)
  /-- LH: primary 33 (30_encoding.md R52). -/
  | lh (rs rt : RegIdx) (imm : Imm16)
  /-- LWL: primary 34 (30_encoding.md R52). -/
  | lwl (rs rt : RegIdx) (imm : Imm16)
  /-- LW: primary 35 (30_encoding.md R52). -/
  | lw (rs rt : RegIdx) (imm : Imm16)
  /-- LBU: primary 36 (30_encoding.md R52). -/
  | lbu (rs rt : RegIdx) (imm : Imm16)
  /-- LHU: primary 37 (30_encoding.md R52). -/
  | lhu (rs rt : RegIdx) (imm : Imm16)
  /-- LWR: primary 38 (30_encoding.md R52). -/
  | lwr (rs rt : RegIdx) (imm : Imm16)
  /-- LWU: primary 39 (30_encoding.md R52). -/
  | lwu (rs rt : RegIdx) (imm : Imm16)
  /-- SB: primary 40 (30_encoding.md R52). -/
  | sb (rs rt : RegIdx) (imm : Imm16)
  /-- SH: primary 41 (30_encoding.md R52). -/
  | sh (rs rt : RegIdx) (imm : Imm16)
  /-- SWL: primary 42 (30_encoding.md R52). -/
  | swl (rs rt : RegIdx) (imm : Imm16)
  /-- SW: primary 43 (30_encoding.md R52). -/
  | sw (rs rt : RegIdx) (imm : Imm16)
  /-- SDL: primary 44 (30_encoding.md R52). -/
  | sdl (rs rt : RegIdx) (imm : Imm16)
  /-- SDR: primary 45 (30_encoding.md R52). -/
  | sdr (rs rt : RegIdx) (imm : Imm16)
  /-- SWR: primary 46 (30_encoding.md R52). -/
  | swr (rs rt : RegIdx) (imm : Imm16)
  /-- CACHE: primary 47 (30_encoding.md R52). -/
  | cache (rs rt : RegIdx) (imm : Imm16)
  /-- LL: primary 48 (30_encoding.md R52). -/
  | ll (rs rt : RegIdx) (imm : Imm16)
  /-- LWC1: primary 49 (30_encoding.md R52). -/
  | lwc1 (rs rt : RegIdx) (imm : Imm16)
  /-- LWC2: primary 50 (30_encoding.md R52). -/
  | lwc2 (rs rt : RegIdx) (imm : Imm16)
  /-- PREF: primary 51 (30_encoding.md R52). -/
  | pref (rs rt : RegIdx) (imm : Imm16)
  /-- LLD: primary 52 (30_encoding.md R52). -/
  | lld (rs rt : RegIdx) (imm : Imm16)
  /-- LDC1: primary 53 (30_encoding.md R52). -/
  | ldc1 (rs rt : RegIdx) (imm : Imm16)
  /-- LDC2: primary 54 (30_encoding.md R52). -/
  | ldc2 (rs rt : RegIdx) (imm : Imm16)
  /-- LD: primary 55 (30_encoding.md R52). -/
  | ld (rs rt : RegIdx) (imm : Imm16)
  /-- SC: primary 56 (30_encoding.md R52). -/
  | sc (rs rt : RegIdx) (imm : Imm16)
  /-- SWC1: primary 57 (30_encoding.md R52). -/
  | swc1 (rs rt : RegIdx) (imm : Imm16)
  /-- SWC2: primary 58 (30_encoding.md R52). -/
  | swc2 (rs rt : RegIdx) (imm : Imm16)
  /-- SCD: primary 60 (30_encoding.md R52). -/
  | scd (rs rt : RegIdx) (imm : Imm16)
  /-- SDC1: primary 61 (30_encoding.md R52). -/
  | sdc1 (rs rt : RegIdx) (imm : Imm16)
  /-- SDC2: primary 62 (30_encoding.md R52). -/
  | sdc2 (rs rt : RegIdx) (imm : Imm16)
  /-- SD: primary 63 (30_encoding.md R52). -/
  | sd (rs rt : RegIdx) (imm : Imm16)
  /-- MMI_group: primary 28 (30_encoding.md R52), on the R5900 (30_encoding.md R56). -/
  | mmiR5900 (rs rt rd : RegIdx) (sa : BitVec 5) (funct : BitVec 6)
  /-- LQ: primary 30 (30_encoding.md R52), on the R5900 (30_encoding.md R56). -/
  | lqR5900 (rs rt : RegIdx) (imm : Imm16)
  /-- SQ: primary 31 (30_encoding.md R52), on the R5900 (30_encoding.md R56). -/
  | sqR5900 (rs rt : RegIdx) (imm : Imm16)
  /-- MFSA: SPECIAL function 40 (30_encoding.md R53), on the R5900 (30_encoding.md R56). -/
  | mfsaR5900 (rs rt rd : RegIdx) (sa : BitVec 5)
  /-- MTSA: SPECIAL function 41 (30_encoding.md R53), on the R5900 (30_encoding.md R56). -/
  | mtsaR5900 (rs rt rd : RegIdx) (sa : BitVec 5)
  /-- MTSAB: REGIMM code 24 (30_encoding.md R54), on the R5900 (30_encoding.md R56). -/
  | mtsabR5900 (rs : RegIdx) (imm : Imm16)
  /-- MTSAH: REGIMM code 25 (30_encoding.md R54), on the R5900 (30_encoding.md R56). -/
  | mtsahR5900 (rs : RegIdx) (imm : Imm16)
  /-- NOP: `0x00000000`, SLL zero,zero,0 (42_cell_operations.md R82). -/
  | nop
  /-- SSNOP: `0x00000040`, SLL with `sa = 1` (30_encoding.md R58). -/
  | ssnop
  /-- EHB: `0x000000c0`, SLL with `sa = 3` (30_encoding.md R58). -/
  | ehb
  /-- A word of any translated row whose destination index is 0 (42_cell_operations.md R82). Another name of that row's own
  words: the decoder names the row itself (log 27). -/
  | zeroDest (word : InstrWord)
  /-- B: the pseudo-instruction `b target`: BEQ with `rs = rt = 0` (30_encoding.md R61). -/
  | b (imm : Imm16)
  /-- COMPRESSED: any halfword in compressed mode: the fixed placeholder (40_decoder.md R65). -/
  | compressed (half : Half)
  /-- UNRECOGNIZED: a word of no row of the opcode maps: a reserved number (30_encoding.md R57). -/
  | unrecognized (word : InstrWord)
  deriving DecidableEq, Repr

/-- Is the instruction a 16-bit one of the compressed mode (30_encoding.md R43)? -/
def Instr.isCompressed : Instr → Bool
  | .compressed _ => true
  | .sll _ _ _ _ | .movci _ _ _ _ | .srl _ _ _ _ | .sra _ _ _ _ | .sllv _ _ _ _ | .srlv _ _ _ _ | .srav _ _ _ _
  | .jr _ _ _ _ | .jalr _ _ _ _ | .movz _ _ _ _ | .movn _ _ _ _ | .syscall _ _ _ _ | .brk _ _ _ _ | .sync _ _ _ _
  | .mfhi _ _ _ _ | .mthi _ _ _ _ | .mflo _ _ _ _ | .mtlo _ _ _ _ | .dsllv _ _ _ _ | .dsrlv _ _ _ _ | .dsrav _ _ _ _
  | .mult _ _ _ _ | .multu _ _ _ _ | .div _ _ _ _ | .divu _ _ _ _ | .dmult _ _ _ _ | .dmultu _ _ _ _ | .ddiv _ _ _ _
  | .ddivu _ _ _ _ | .add _ _ _ _ | .addu _ _ _ _ | .sub _ _ _ _ | .subu _ _ _ _ | .and _ _ _ _ | .or _ _ _ _
  | .xor _ _ _ _ | .nor _ _ _ _ | .slt _ _ _ _ | .sltu _ _ _ _ | .dadd _ _ _ _ | .daddu _ _ _ _ | .dsub _ _ _ _
  | .dsubu _ _ _ _ | .tge _ _ _ _ | .tgeu _ _ _ _ | .tlt _ _ _ _ | .tltu _ _ _ _ | .teq _ _ _ _ | .tne _ _ _ _
  | .dsll _ _ _ _ | .dsrl _ _ _ _ | .dsra _ _ _ _ | .dsll32 _ _ _ _ | .dsrl32 _ _ _ _ | .dsra32 _ _ _ _ | .bltz _ _
  | .bgez _ _ | .bltzl _ _ | .bgezl _ _ | .tgei _ _ | .tgeiu _ _ | .tlti _ _ | .tltiu _ _ | .teqi _ _ | .tnei _ _
  | .bltzal _ _ | .bgezal _ _ | .bltzall _ _ | .bgezall _ _ | .synci _ _ | .j _ | .jal _ | .beq _ _ _ | .bne _ _ _
  | .blez _ _ _ | .bgtz _ _ _ | .addi _ _ _ | .addiu _ _ _ | .slti _ _ _ | .sltiu _ _ _ | .andi _ _ _ | .ori _ _ _
  | .xori _ _ _ | .lui _ _ _ | .cop0 _ _ _ _ _ | .cop1 _ _ _ _ _ | .cop2 _ _ _ _ _ | .cop1x _ _ _ _ _ | .beql _ _ _
  | .bnel _ _ _ | .blezl _ _ _ | .bgtzl _ _ _ | .daddi _ _ _ | .daddiu _ _ _ | .ldl _ _ _ | .ldr _ _ _
  | .special2 _ _ _ _ _ | .jalx _ | .special3 _ _ _ _ _ | .lb _ _ _ | .lh _ _ _ | .lwl _ _ _ | .lw _ _ _ | .lbu _ _ _
  | .lhu _ _ _ | .lwr _ _ _ | .lwu _ _ _ | .sb _ _ _ | .sh _ _ _ | .swl _ _ _ | .sw _ _ _ | .sdl _ _ _ | .sdr _ _ _
  | .swr _ _ _ | .cache _ _ _ | .ll _ _ _ | .lwc1 _ _ _ | .lwc2 _ _ _ | .pref _ _ _ | .lld _ _ _ | .ldc1 _ _ _
  | .ldc2 _ _ _ | .ld _ _ _ | .sc _ _ _ | .swc1 _ _ _ | .swc2 _ _ _ | .scd _ _ _ | .sdc1 _ _ _ | .sdc2 _ _ _
  | .sd _ _ _ | .mmiR5900 _ _ _ _ _ | .lqR5900 _ _ _ | .sqR5900 _ _ _ | .mfsaR5900 _ _ _ _ | .mtsaR5900 _ _ _ _
  | .mtsabR5900 _ _ | .mtsahR5900 _ _ | .nop | .ssnop | .ehb | .zeroDest _ | .b _ | .unrecognized _ => false

end Sys2Proof
end

