-- ==== Sys2Proof/WellFormed.lean ====
section
/-! DEFINITION. Well-formed instructions: those that are the name of the word they encode to. Field widths are carried by
the types; what is left are the words that have a more particular name, the rows of one variant only, and the
words that no row names. -/

namespace Sys2Proof

/-- The primary numbers of no row for every variant (30_encoding.md R52). Number 30 is LQ on the R5900. -/
def reservedPrimary (v : Variant) (p : BitVec 6) : Bool :=
  p == 59#6 || (p == 30#6 && v != .r5900)

/-- The SPECIAL functions of no row (30_encoding.md R53). Numbers 40 and 41 are MFSA and MTSA on the R5900. -/
def reservedFunct (v : Variant) (f : BitVec 6) : Bool :=
  f == 5#6 || f == 14#6 || f == 21#6 || f == 53#6 || f == 55#6 || f == 57#6 || f == 61#6 ||
  ((f == 40#6 || f == 41#6) && v != .r5900)

/-- The REGIMM codes of no row (30_encoding.md R54): every value but the listed ones, with 24 and 25 MTSAB and MTSAH
on the R5900. -/
def reservedRegimm (v : Variant) (c : BitVec 5) : Bool :=
  !(c == 0#5 || c == 1#5 || c == 2#5 || c == 3#5 || c == 8#5 || c == 9#5 || c == 10#5 || c == 11#5 || c == 12#5 ||
    c == 14#5 || c == 16#5 || c == 17#5 || c == 18#5 || c == 19#5 || c == 31#5 ||
    ((c == 24#5 || c == 25#5) && v == .r5900))

/-- Has the word no row in the opcode maps (30_encoding.md R52 to R54, R57)? -/
def reservedWord (v : Variant) (w : InstrWord) : Bool :=
  reservedPrimary v (w.extractLsb' 26 6) ||
  (w.extractLsb' 26 6 == 0#6 && reservedFunct v (w.extractLsb' 0 6)) ||
  (w.extractLsb' 26 6 == 1#6 && reservedRegimm v (w.extractLsb' 16 5))

/-- Is the word one of a translated row with destination index 0 (41_translator.md R69, R71)? The destination is `rd` for
SLL, ADDU and DADDU, and `rt` for the immediate rows. -/
def zeroDestWord (w : InstrWord) : Bool :=
  (w.extractLsb' 26 6 == 0#6 &&
    (w.extractLsb' 0 6 == 0#6 || w.extractLsb' 0 6 == 33#6 || w.extractLsb' 0 6 == 45#6) &&
    w.extractLsb' 11 5 == 0#5) ||
  ((w.extractLsb' 26 6 == 9#6 || w.extractLsb' 26 6 == 12#6 || w.extractLsb' 26 6 == 13#6 ||
    w.extractLsb' 26 6 == 14#6 || w.extractLsb' 26 6 == 15#6 || w.extractLsb' 26 6 == 25#6) &&
    w.extractLsb' 16 5 == 0#5)

/-- The well-formed instructions on a variant. SLL and BEQ exclude the words the table names NOP, SSNOP, EHB and B;
SPECIAL2 and SPECIAL3 exclude the R5900, whose MMI and SQ have those numbers (30_encoding.md R52, R56). -/
def Instr.wf (v : Variant) : Instr → Bool
  | .sll rs rt rd sa => !(rs == 0#5 && rt == 0#5 && rd == 0#5 && (sa == 0#5 || sa == 1#5 || sa == 3#5))
  | .beq rs rt _ => !(rs == 0#5 && rt == 0#5)
  | .special2 _ _ _ _ _ | .special3 _ _ _ _ _ => v != .r5900
  | .mmiR5900 _ _ _ _ _ | .lqR5900 _ _ _ | .sqR5900 _ _ _ | .mfsaR5900 _ _ _ _ | .mtsaR5900 _ _ _ _
  | .mtsabR5900 _ _ | .mtsahR5900 _ _ => v == .r5900
  | .unrecognized w => reservedWord v w
  | .zeroDest w => zeroDestWord w
  | .movci _ _ _ _ | .srl _ _ _ _ | .sra _ _ _ _ | .sllv _ _ _ _ | .srlv _ _ _ _ | .srav _ _ _ _ | .jr _ _ _ _
  | .jalr _ _ _ _ | .movz _ _ _ _ | .movn _ _ _ _ | .syscall _ _ _ _ | .brk _ _ _ _ | .sync _ _ _ _ | .mfhi _ _ _ _
  | .mthi _ _ _ _ | .mflo _ _ _ _ | .mtlo _ _ _ _ | .dsllv _ _ _ _ | .dsrlv _ _ _ _ | .dsrav _ _ _ _ | .mult _ _ _ _
  | .multu _ _ _ _ | .div _ _ _ _ | .divu _ _ _ _ | .dmult _ _ _ _ | .dmultu _ _ _ _ | .ddiv _ _ _ _ | .ddivu _ _ _ _
  | .add _ _ _ _ | .addu _ _ _ _ | .sub _ _ _ _ | .subu _ _ _ _ | .and _ _ _ _ | .or _ _ _ _ | .xor _ _ _ _
  | .nor _ _ _ _ | .slt _ _ _ _ | .sltu _ _ _ _ | .dadd _ _ _ _ | .daddu _ _ _ _ | .dsub _ _ _ _ | .dsubu _ _ _ _
  | .tge _ _ _ _ | .tgeu _ _ _ _ | .tlt _ _ _ _ | .tltu _ _ _ _ | .teq _ _ _ _ | .tne _ _ _ _ | .dsll _ _ _ _
  | .dsrl _ _ _ _ | .dsra _ _ _ _ | .dsll32 _ _ _ _ | .dsrl32 _ _ _ _ | .dsra32 _ _ _ _ | .bltz _ _ | .bgez _ _
  | .bltzl _ _ | .bgezl _ _ | .tgei _ _ | .tgeiu _ _ | .tlti _ _ | .tltiu _ _ | .teqi _ _ | .tnei _ _ | .bltzal _ _
  | .bgezal _ _ | .bltzall _ _ | .bgezall _ _ | .synci _ _ | .j _ | .jal _ | .bne _ _ _ | .blez _ _ _ | .bgtz _ _ _
  | .addi _ _ _ | .addiu _ _ _ | .slti _ _ _ | .sltiu _ _ _ | .andi _ _ _ | .ori _ _ _ | .xori _ _ _ | .lui _ _ _
  | .cop0 _ _ _ _ _ | .cop1 _ _ _ _ _ | .cop2 _ _ _ _ _ | .cop1x _ _ _ _ _ | .beql _ _ _ | .bnel _ _ _ | .blezl _ _ _
  | .bgtzl _ _ _ | .daddi _ _ _ | .daddiu _ _ _ | .ldl _ _ _ | .ldr _ _ _ | .jalx _ | .lb _ _ _ | .lh _ _ _
  | .lwl _ _ _ | .lw _ _ _ | .lbu _ _ _ | .lhu _ _ _ | .lwr _ _ _ | .lwu _ _ _ | .sb _ _ _ | .sh _ _ _ | .swl _ _ _
  | .sw _ _ _ | .sdl _ _ _ | .sdr _ _ _ | .swr _ _ _ | .cache _ _ _ | .ll _ _ _ | .lwc1 _ _ _ | .lwc2 _ _ _
  | .pref _ _ _ | .lld _ _ _ | .ldc1 _ _ _ | .ldc2 _ _ _ | .ld _ _ _ | .sc _ _ _ | .swc1 _ _ _ | .swc2 _ _ _
  | .scd _ _ _ | .sdc1 _ _ _ | .sdc2 _ _ _ | .sd _ _ _ | .nop | .ssnop | .ehb | .b _ | .compressed _ => true

end Sys2Proof
end

