-- ==== Sys2Proof/Decode.lean ====
section
/-! DEFINITION. The Instruction Decoder (40_decoder.md R62 to R66), the naming of its classifications by the opcode maps
(30_encoding.md R52 to R54), the encoder, and the byte order of instruction words (20_memory.md R29 to R31). -/

namespace Sys2Proof

/-- The fields of a normal classification (40_decoder.md R64). -/
structure Fields where
  primary   : BitVec 6
  rs        : RegIdx
  rt        : RegIdx
  rd        : RegIdx
  sa        : BitVec 5
  funct     : BitVec 6
  secondary : Option (BitVec 6)
  imm16     : Imm16
  target26  : BitVec 26
  word      : InstrWord
  vaddr     : Word
  deriving DecidableEq, Repr

/-- The Decoded Opcode Classification (40_decoder.md R64, R65). It is ephemeral and stands in no state (R24). -/
inductive Classification where
  | normal (f : Fields)
  | compressedPlaceholder (half : Half) (vaddr : Word)
  deriving DecidableEq, Repr

/-- Normal decode (40_decoder.md R64): every field of every word, whatever its opcode (30_encoding.md R44), with
`secondary` present only for the SPECIAL group, primary 0 (R46). -/
def decodeNormal (w : InstrWord) (vaddr : Word) : Fields :=
  { primary   := w.extractLsb' 26 6
    rs        := w.extractLsb' 21 5
    rt        := w.extractLsb' 16 5
    rd        := w.extractLsb' 11 5
    sa        := w.extractLsb' 6 5
    funct     := w.extractLsb' 0 6
    secondary := if w.extractLsb' 26 6 = 0#6 then some (w.extractLsb' 0 6) else none
    imm16     := w.extractLsb' 0 16
    target26  := w.extractLsb' 0 26
    word      := w
    vaddr     := vaddr }

/-- The decoder (40_decoder.md R63, R65): bit 0 of the fetch address alone selects the grammar, and every compressed
halfword is the placeholder, which reads only `word[15:0]`. -/
def decode (w : InstrWord) (vaddr : Word) : Classification :=
  if vaddr.getLsbD 0 then .compressedPlaceholder (w.extractLsb' 0 16) vaddr else .normal (decodeNormal w vaddr)

/-- SLL and the three hint forms the table names (30_encoding.md R58; 42_cell_operations.md R82). -/
def nameSll (f : Fields) : Instr :=
  if f.rs = 0#5 ∧ f.rt = 0#5 ∧ f.rd = 0#5 then
    if f.sa = 0#5 then .nop else if f.sa = 1#5 then .ssnop else if f.sa = 3#5 then .ehb
    else .sll f.rs f.rt f.rd f.sa
  else .sll f.rs f.rt f.rd f.sa

/-- BEQ and its idiom `b` (30_encoding.md R61). -/
def nameBeq (f : Fields) : Instr :=
  if f.rs = 0#5 ∧ f.rt = 0#5 then .b f.imm16 else .beq f.rs f.rt f.imm16

/-- A row of the R5900 only (30_encoding.md R56), and what the number names on the other variants. -/
def onR5900 (v : Variant) (there elsewhere : Instr) : Instr :=
  if v = .r5900 then there else elsewhere

/-- The SPECIAL group by its function field (30_encoding.md R53). -/
def nameSpecial (v : Variant) (f : Fields) : Instr :=
  match f.funct with
  | 0#6 => nameSll f
  | 1#6 => .movci f.rs f.rt f.rd f.sa
  | 2#6 => .srl f.rs f.rt f.rd f.sa
  | 3#6 => .sra f.rs f.rt f.rd f.sa
  | 4#6 => .sllv f.rs f.rt f.rd f.sa
  | 6#6 => .srlv f.rs f.rt f.rd f.sa
  | 7#6 => .srav f.rs f.rt f.rd f.sa
  | 8#6 => .jr f.rs f.rt f.rd f.sa
  | 9#6 => .jalr f.rs f.rt f.rd f.sa
  | 10#6 => .movz f.rs f.rt f.rd f.sa
  | 11#6 => .movn f.rs f.rt f.rd f.sa
  | 12#6 => .syscall f.rs f.rt f.rd f.sa
  | 13#6 => .brk f.rs f.rt f.rd f.sa
  | 15#6 => .sync f.rs f.rt f.rd f.sa
  | 16#6 => .mfhi f.rs f.rt f.rd f.sa
  | 17#6 => .mthi f.rs f.rt f.rd f.sa
  | 18#6 => .mflo f.rs f.rt f.rd f.sa
  | 19#6 => .mtlo f.rs f.rt f.rd f.sa
  | 20#6 => .dsllv f.rs f.rt f.rd f.sa
  | 22#6 => .dsrlv f.rs f.rt f.rd f.sa
  | 23#6 => .dsrav f.rs f.rt f.rd f.sa
  | 24#6 => .mult f.rs f.rt f.rd f.sa
  | 25#6 => .multu f.rs f.rt f.rd f.sa
  | 26#6 => .div f.rs f.rt f.rd f.sa
  | 27#6 => .divu f.rs f.rt f.rd f.sa
  | 28#6 => .dmult f.rs f.rt f.rd f.sa
  | 29#6 => .dmultu f.rs f.rt f.rd f.sa
  | 30#6 => .ddiv f.rs f.rt f.rd f.sa
  | 31#6 => .ddivu f.rs f.rt f.rd f.sa
  | 32#6 => .add f.rs f.rt f.rd f.sa
  | 33#6 => .addu f.rs f.rt f.rd f.sa
  | 34#6 => .sub f.rs f.rt f.rd f.sa
  | 35#6 => .subu f.rs f.rt f.rd f.sa
  | 36#6 => .and f.rs f.rt f.rd f.sa
  | 37#6 => .or f.rs f.rt f.rd f.sa
  | 38#6 => .xor f.rs f.rt f.rd f.sa
  | 39#6 => .nor f.rs f.rt f.rd f.sa
  | 40#6 => onR5900 v (.mfsaR5900 f.rs f.rt f.rd f.sa) (.unrecognized f.word)
  | 41#6 => onR5900 v (.mtsaR5900 f.rs f.rt f.rd f.sa) (.unrecognized f.word)
  | 42#6 => .slt f.rs f.rt f.rd f.sa
  | 43#6 => .sltu f.rs f.rt f.rd f.sa
  | 44#6 => .dadd f.rs f.rt f.rd f.sa
  | 45#6 => .daddu f.rs f.rt f.rd f.sa
  | 46#6 => .dsub f.rs f.rt f.rd f.sa
  | 47#6 => .dsubu f.rs f.rt f.rd f.sa
  | 48#6 => .tge f.rs f.rt f.rd f.sa
  | 49#6 => .tgeu f.rs f.rt f.rd f.sa
  | 50#6 => .tlt f.rs f.rt f.rd f.sa
  | 51#6 => .tltu f.rs f.rt f.rd f.sa
  | 52#6 => .teq f.rs f.rt f.rd f.sa
  | 54#6 => .tne f.rs f.rt f.rd f.sa
  | 56#6 => .dsll f.rs f.rt f.rd f.sa
  | 58#6 => .dsrl f.rs f.rt f.rd f.sa
  | 59#6 => .dsra f.rs f.rt f.rd f.sa
  | 60#6 => .dsll32 f.rs f.rt f.rd f.sa
  | 62#6 => .dsrl32 f.rs f.rt f.rd f.sa
  | 63#6 => .dsra32 f.rs f.rt f.rd f.sa
  | _ => .unrecognized f.word

/-- The REGIMM group by its `rt` sub-field (30_encoding.md R54). -/
def nameRegimm (v : Variant) (f : Fields) : Instr :=
  match f.rt with
  | 0#5 => .bltz f.rs f.imm16
  | 1#5 => .bgez f.rs f.imm16
  | 2#5 => .bltzl f.rs f.imm16
  | 3#5 => .bgezl f.rs f.imm16
  | 8#5 => .tgei f.rs f.imm16
  | 9#5 => .tgeiu f.rs f.imm16
  | 10#5 => .tlti f.rs f.imm16
  | 11#5 => .tltiu f.rs f.imm16
  | 12#5 => .teqi f.rs f.imm16
  | 14#5 => .tnei f.rs f.imm16
  | 16#5 => .bltzal f.rs f.imm16
  | 17#5 => .bgezal f.rs f.imm16
  | 18#5 => .bltzall f.rs f.imm16
  | 19#5 => .bgezall f.rs f.imm16
  | 24#5 => onR5900 v (.mtsabR5900 f.rs f.imm16) (.unrecognized f.word)
  | 25#5 => onR5900 v (.mtsahR5900 f.rs f.imm16) (.unrecognized f.word)
  | 31#5 => .synci f.rs f.imm16
  | _ => .unrecognized f.word

/-- The primary opcode map (30_encoding.md R52). -/
def nameNormal (v : Variant) (f : Fields) : Instr :=
  match f.primary with
  | 0#6 => nameSpecial v f
  | 1#6 => nameRegimm v f
  | 2#6 => .j f.target26
  | 3#6 => .jal f.target26
  | 4#6 => nameBeq f
  | 5#6 => .bne f.rs f.rt f.imm16
  | 6#6 => .blez f.rs f.rt f.imm16
  | 7#6 => .bgtz f.rs f.rt f.imm16
  | 8#6 => .addi f.rs f.rt f.imm16
  | 9#6 => .addiu f.rs f.rt f.imm16
  | 10#6 => .slti f.rs f.rt f.imm16
  | 11#6 => .sltiu f.rs f.rt f.imm16
  | 12#6 => .andi f.rs f.rt f.imm16
  | 13#6 => .ori f.rs f.rt f.imm16
  | 14#6 => .xori f.rs f.rt f.imm16
  | 15#6 => .lui f.rs f.rt f.imm16
  | 16#6 => .cop0 f.rs f.rt f.rd f.sa f.funct
  | 17#6 => .cop1 f.rs f.rt f.rd f.sa f.funct
  | 18#6 => .cop2 f.rs f.rt f.rd f.sa f.funct
  | 19#6 => .cop1x f.rs f.rt f.rd f.sa f.funct
  | 20#6 => .beql f.rs f.rt f.imm16
  | 21#6 => .bnel f.rs f.rt f.imm16
  | 22#6 => .blezl f.rs f.rt f.imm16
  | 23#6 => .bgtzl f.rs f.rt f.imm16
  | 24#6 => .daddi f.rs f.rt f.imm16
  | 25#6 => .daddiu f.rs f.rt f.imm16
  | 26#6 => .ldl f.rs f.rt f.imm16
  | 27#6 => .ldr f.rs f.rt f.imm16
  | 28#6 => onR5900 v (.mmiR5900 f.rs f.rt f.rd f.sa f.funct) (.special2 f.rs f.rt f.rd f.sa f.funct)
  | 29#6 => .jalx f.target26
  | 30#6 => onR5900 v (.lqR5900 f.rs f.rt f.imm16) (.unrecognized f.word)
  | 31#6 => onR5900 v (.sqR5900 f.rs f.rt f.imm16) (.special3 f.rs f.rt f.rd f.sa f.funct)
  | 32#6 => .lb f.rs f.rt f.imm16
  | 33#6 => .lh f.rs f.rt f.imm16
  | 34#6 => .lwl f.rs f.rt f.imm16
  | 35#6 => .lw f.rs f.rt f.imm16
  | 36#6 => .lbu f.rs f.rt f.imm16
  | 37#6 => .lhu f.rs f.rt f.imm16
  | 38#6 => .lwr f.rs f.rt f.imm16
  | 39#6 => .lwu f.rs f.rt f.imm16
  | 40#6 => .sb f.rs f.rt f.imm16
  | 41#6 => .sh f.rs f.rt f.imm16
  | 42#6 => .swl f.rs f.rt f.imm16
  | 43#6 => .sw f.rs f.rt f.imm16
  | 44#6 => .sdl f.rs f.rt f.imm16
  | 45#6 => .sdr f.rs f.rt f.imm16
  | 46#6 => .swr f.rs f.rt f.imm16
  | 47#6 => .cache f.rs f.rt f.imm16
  | 48#6 => .ll f.rs f.rt f.imm16
  | 49#6 => .lwc1 f.rs f.rt f.imm16
  | 50#6 => .lwc2 f.rs f.rt f.imm16
  | 51#6 => .pref f.rs f.rt f.imm16
  | 52#6 => .lld f.rs f.rt f.imm16
  | 53#6 => .ldc1 f.rs f.rt f.imm16
  | 54#6 => .ldc2 f.rs f.rt f.imm16
  | 55#6 => .ld f.rs f.rt f.imm16
  | 56#6 => .sc f.rs f.rt f.imm16
  | 57#6 => .swc1 f.rs f.rt f.imm16
  | 58#6 => .swc2 f.rs f.rt f.imm16
  | 60#6 => .scd f.rs f.rt f.imm16
  | 61#6 => .sdc1 f.rs f.rt f.imm16
  | 62#6 => .sdc2 f.rs f.rt f.imm16
  | 63#6 => .sd f.rs f.rt f.imm16
  | _ => .unrecognized f.word

/-- The instruction a classification names on a variant. -/
def nameClass (v : Variant) : Classification → Instr
  | .normal f => nameNormal v f
  | .compressedPlaceholder half _ => .compressed half

/-- The instruction of a word fetched at `vaddr`. Total: no encoding is illegal at decode (30_encoding.md R57;
40_decoder.md R66); a word of no row is rejected by the name `unrecognized`. -/
def decodeInstr (v : Variant) (w : InstrWord) (vaddr : Word) : Instr :=
  nameClass v (decode w vaddr)

/-- What the decoder names the word of an instruction: the instruction itself, but for `zeroDest`, which is another name
of a translated row's words (log 27). -/
def Instr.canonical (v : Variant) : Instr → Instr
  | .zeroDest w => nameNormal v (decodeNormal w 0)
  | i => i

/-! ### The encoder -/

/-- R-type of the SPECIAL group (30_encoding.md R44, R47). -/
def encodeSpecial (rs rt rd : RegIdx) (sa : BitVec 5) (funct : BitVec 6) : InstrWord :=
  0#6 ++ rs ++ rt ++ rd ++ sa ++ funct

/-- All the fields of an untranslated group (30_encoding.md R44, R55). -/
def encodeGroup (primary : BitVec 6) (rs rt rd : RegIdx) (sa : BitVec 5) (funct : BitVec 6) : InstrWord :=
  primary ++ rs ++ rt ++ rd ++ sa ++ funct

/-- I-type (30_encoding.md R44, R47); the REGIMM code stands in the `rt` field (R54). -/
def encodeImm (primary : BitVec 6) (rs rt : RegIdx) (imm : Imm16) : InstrWord :=
  primary ++ rs ++ rt ++ imm

/-- J-type (30_encoding.md R44, R47). -/
def encodeJump (primary : BitVec 6) (target : BitVec 26) : InstrWord :=
  primary ++ target

/-- The word of an instruction; a compressed halfword stands in `word[15:0]` with zeros above (20_memory.md R31). -/
def encode : Instr → InstrWord
  | .sll rs rt rd sa => encodeSpecial rs rt rd sa 0#6
  | .movci rs rt rd sa => encodeSpecial rs rt rd sa 1#6
  | .srl rs rt rd sa => encodeSpecial rs rt rd sa 2#6
  | .sra rs rt rd sa => encodeSpecial rs rt rd sa 3#6
  | .sllv rs rt rd sa => encodeSpecial rs rt rd sa 4#6
  | .srlv rs rt rd sa => encodeSpecial rs rt rd sa 6#6
  | .srav rs rt rd sa => encodeSpecial rs rt rd sa 7#6
  | .jr rs rt rd sa => encodeSpecial rs rt rd sa 8#6
  | .jalr rs rt rd sa => encodeSpecial rs rt rd sa 9#6
  | .movz rs rt rd sa => encodeSpecial rs rt rd sa 10#6
  | .movn rs rt rd sa => encodeSpecial rs rt rd sa 11#6
  | .syscall rs rt rd sa => encodeSpecial rs rt rd sa 12#6
  | .brk rs rt rd sa => encodeSpecial rs rt rd sa 13#6
  | .sync rs rt rd sa => encodeSpecial rs rt rd sa 15#6
  | .mfhi rs rt rd sa => encodeSpecial rs rt rd sa 16#6
  | .mthi rs rt rd sa => encodeSpecial rs rt rd sa 17#6
  | .mflo rs rt rd sa => encodeSpecial rs rt rd sa 18#6
  | .mtlo rs rt rd sa => encodeSpecial rs rt rd sa 19#6
  | .dsllv rs rt rd sa => encodeSpecial rs rt rd sa 20#6
  | .dsrlv rs rt rd sa => encodeSpecial rs rt rd sa 22#6
  | .dsrav rs rt rd sa => encodeSpecial rs rt rd sa 23#6
  | .mult rs rt rd sa => encodeSpecial rs rt rd sa 24#6
  | .multu rs rt rd sa => encodeSpecial rs rt rd sa 25#6
  | .div rs rt rd sa => encodeSpecial rs rt rd sa 26#6
  | .divu rs rt rd sa => encodeSpecial rs rt rd sa 27#6
  | .dmult rs rt rd sa => encodeSpecial rs rt rd sa 28#6
  | .dmultu rs rt rd sa => encodeSpecial rs rt rd sa 29#6
  | .ddiv rs rt rd sa => encodeSpecial rs rt rd sa 30#6
  | .ddivu rs rt rd sa => encodeSpecial rs rt rd sa 31#6
  | .add rs rt rd sa => encodeSpecial rs rt rd sa 32#6
  | .addu rs rt rd sa => encodeSpecial rs rt rd sa 33#6
  | .sub rs rt rd sa => encodeSpecial rs rt rd sa 34#6
  | .subu rs rt rd sa => encodeSpecial rs rt rd sa 35#6
  | .and rs rt rd sa => encodeSpecial rs rt rd sa 36#6
  | .or rs rt rd sa => encodeSpecial rs rt rd sa 37#6
  | .xor rs rt rd sa => encodeSpecial rs rt rd sa 38#6
  | .nor rs rt rd sa => encodeSpecial rs rt rd sa 39#6
  | .slt rs rt rd sa => encodeSpecial rs rt rd sa 42#6
  | .sltu rs rt rd sa => encodeSpecial rs rt rd sa 43#6
  | .dadd rs rt rd sa => encodeSpecial rs rt rd sa 44#6
  | .daddu rs rt rd sa => encodeSpecial rs rt rd sa 45#6
  | .dsub rs rt rd sa => encodeSpecial rs rt rd sa 46#6
  | .dsubu rs rt rd sa => encodeSpecial rs rt rd sa 47#6
  | .tge rs rt rd sa => encodeSpecial rs rt rd sa 48#6
  | .tgeu rs rt rd sa => encodeSpecial rs rt rd sa 49#6
  | .tlt rs rt rd sa => encodeSpecial rs rt rd sa 50#6
  | .tltu rs rt rd sa => encodeSpecial rs rt rd sa 51#6
  | .teq rs rt rd sa => encodeSpecial rs rt rd sa 52#6
  | .tne rs rt rd sa => encodeSpecial rs rt rd sa 54#6
  | .dsll rs rt rd sa => encodeSpecial rs rt rd sa 56#6
  | .dsrl rs rt rd sa => encodeSpecial rs rt rd sa 58#6
  | .dsra rs rt rd sa => encodeSpecial rs rt rd sa 59#6
  | .dsll32 rs rt rd sa => encodeSpecial rs rt rd sa 60#6
  | .dsrl32 rs rt rd sa => encodeSpecial rs rt rd sa 62#6
  | .dsra32 rs rt rd sa => encodeSpecial rs rt rd sa 63#6
  | .bltz rs imm => encodeImm 1#6 rs 0#5 imm
  | .bgez rs imm => encodeImm 1#6 rs 1#5 imm
  | .bltzl rs imm => encodeImm 1#6 rs 2#5 imm
  | .bgezl rs imm => encodeImm 1#6 rs 3#5 imm
  | .tgei rs imm => encodeImm 1#6 rs 8#5 imm
  | .tgeiu rs imm => encodeImm 1#6 rs 9#5 imm
  | .tlti rs imm => encodeImm 1#6 rs 10#5 imm
  | .tltiu rs imm => encodeImm 1#6 rs 11#5 imm
  | .teqi rs imm => encodeImm 1#6 rs 12#5 imm
  | .tnei rs imm => encodeImm 1#6 rs 14#5 imm
  | .bltzal rs imm => encodeImm 1#6 rs 16#5 imm
  | .bgezal rs imm => encodeImm 1#6 rs 17#5 imm
  | .bltzall rs imm => encodeImm 1#6 rs 18#5 imm
  | .bgezall rs imm => encodeImm 1#6 rs 19#5 imm
  | .synci rs imm => encodeImm 1#6 rs 31#5 imm
  | .j target => encodeJump 2#6 target
  | .jal target => encodeJump 3#6 target
  | .beq rs rt imm => encodeImm 4#6 rs rt imm
  | .bne rs rt imm => encodeImm 5#6 rs rt imm
  | .blez rs rt imm => encodeImm 6#6 rs rt imm
  | .bgtz rs rt imm => encodeImm 7#6 rs rt imm
  | .addi rs rt imm => encodeImm 8#6 rs rt imm
  | .addiu rs rt imm => encodeImm 9#6 rs rt imm
  | .slti rs rt imm => encodeImm 10#6 rs rt imm
  | .sltiu rs rt imm => encodeImm 11#6 rs rt imm
  | .andi rs rt imm => encodeImm 12#6 rs rt imm
  | .ori rs rt imm => encodeImm 13#6 rs rt imm
  | .xori rs rt imm => encodeImm 14#6 rs rt imm
  | .lui rs rt imm => encodeImm 15#6 rs rt imm
  | .cop0 rs rt rd sa funct => encodeGroup 16#6 rs rt rd sa funct
  | .cop1 rs rt rd sa funct => encodeGroup 17#6 rs rt rd sa funct
  | .cop2 rs rt rd sa funct => encodeGroup 18#6 rs rt rd sa funct
  | .cop1x rs rt rd sa funct => encodeGroup 19#6 rs rt rd sa funct
  | .beql rs rt imm => encodeImm 20#6 rs rt imm
  | .bnel rs rt imm => encodeImm 21#6 rs rt imm
  | .blezl rs rt imm => encodeImm 22#6 rs rt imm
  | .bgtzl rs rt imm => encodeImm 23#6 rs rt imm
  | .daddi rs rt imm => encodeImm 24#6 rs rt imm
  | .daddiu rs rt imm => encodeImm 25#6 rs rt imm
  | .ldl rs rt imm => encodeImm 26#6 rs rt imm
  | .ldr rs rt imm => encodeImm 27#6 rs rt imm
  | .special2 rs rt rd sa funct => encodeGroup 28#6 rs rt rd sa funct
  | .jalx target => encodeJump 29#6 target
  | .special3 rs rt rd sa funct => encodeGroup 31#6 rs rt rd sa funct
  | .lb rs rt imm => encodeImm 32#6 rs rt imm
  | .lh rs rt imm => encodeImm 33#6 rs rt imm
  | .lwl rs rt imm => encodeImm 34#6 rs rt imm
  | .lw rs rt imm => encodeImm 35#6 rs rt imm
  | .lbu rs rt imm => encodeImm 36#6 rs rt imm
  | .lhu rs rt imm => encodeImm 37#6 rs rt imm
  | .lwr rs rt imm => encodeImm 38#6 rs rt imm
  | .lwu rs rt imm => encodeImm 39#6 rs rt imm
  | .sb rs rt imm => encodeImm 40#6 rs rt imm
  | .sh rs rt imm => encodeImm 41#6 rs rt imm
  | .swl rs rt imm => encodeImm 42#6 rs rt imm
  | .sw rs rt imm => encodeImm 43#6 rs rt imm
  | .sdl rs rt imm => encodeImm 44#6 rs rt imm
  | .sdr rs rt imm => encodeImm 45#6 rs rt imm
  | .swr rs rt imm => encodeImm 46#6 rs rt imm
  | .cache rs rt imm => encodeImm 47#6 rs rt imm
  | .ll rs rt imm => encodeImm 48#6 rs rt imm
  | .lwc1 rs rt imm => encodeImm 49#6 rs rt imm
  | .lwc2 rs rt imm => encodeImm 50#6 rs rt imm
  | .pref rs rt imm => encodeImm 51#6 rs rt imm
  | .lld rs rt imm => encodeImm 52#6 rs rt imm
  | .ldc1 rs rt imm => encodeImm 53#6 rs rt imm
  | .ldc2 rs rt imm => encodeImm 54#6 rs rt imm
  | .ld rs rt imm => encodeImm 55#6 rs rt imm
  | .sc rs rt imm => encodeImm 56#6 rs rt imm
  | .swc1 rs rt imm => encodeImm 57#6 rs rt imm
  | .swc2 rs rt imm => encodeImm 58#6 rs rt imm
  | .scd rs rt imm => encodeImm 60#6 rs rt imm
  | .sdc1 rs rt imm => encodeImm 61#6 rs rt imm
  | .sdc2 rs rt imm => encodeImm 62#6 rs rt imm
  | .sd rs rt imm => encodeImm 63#6 rs rt imm
  | .mmiR5900 rs rt rd sa funct => encodeGroup 28#6 rs rt rd sa funct
  | .lqR5900 rs rt imm => encodeImm 30#6 rs rt imm
  | .sqR5900 rs rt imm => encodeImm 31#6 rs rt imm
  | .mfsaR5900 rs rt rd sa => encodeSpecial rs rt rd sa 40#6
  | .mtsaR5900 rs rt rd sa => encodeSpecial rs rt rd sa 41#6
  | .mtsabR5900 rs imm => encodeImm 1#6 rs 24#5 imm
  | .mtsahR5900 rs imm => encodeImm 1#6 rs 25#5 imm
  | .nop => encodeSpecial 0#5 0#5 0#5 0#5 0#6
  | .ssnop => encodeSpecial 0#5 0#5 0#5 1#5 0#6
  | .ehb => encodeSpecial 0#5 0#5 0#5 3#5 0#6
  | .zeroDest word => word
  | .b imm => encodeImm 4#6 0#5 0#5 imm
  | .compressed half => half.setWidth 32
  | .unrecognized word => word

/-! ### Bytes -/

/-- A word from its four bytes at rising addresses (20_memory.md R29, R30; little-endian: PRESUMED by the spec, D25). -/
def assembleWord (e : Endian) (b0 b1 b2 b3 : Byte) : InstrWord :=
  match e with
  | .big => b0 ++ b1 ++ b2 ++ b3
  | .little => b3 ++ b2 ++ b1 ++ b0

/-- A compressed halfword from its two bytes, in `word[15:0]` with zeros above (20_memory.md R31). -/
def assembleHalf (e : Endian) (b0 b1 : Byte) : InstrWord :=
  match e with
  | .big => (b0 ++ b1 : Half).setWidth 32
  | .little => (b1 ++ b0 : Half).setWidth 32

/-- The bytes of a word at rising addresses: the inverse of `assembleWord`. -/
def layoutWord (e : Endian) (w : InstrWord) : List Byte :=
  match e with
  | .big => [w.extractLsb' 24 8, w.extractLsb' 16 8, w.extractLsb' 8 8, w.extractLsb' 0 8]
  | .little => [w.extractLsb' 0 8, w.extractLsb' 8 8, w.extractLsb' 16 8, w.extractLsb' 24 8]

/-- The bytes of a compressed halfword at rising addresses: the inverse of `assembleHalf`. -/
def layoutHalf (e : Endian) (w : InstrWord) : List Byte :=
  match e with
  | .big => [w.extractLsb' 8 8, w.extractLsb' 0 8]
  | .little => [w.extractLsb' 0 8, w.extractLsb' 8 8]

/-- Why a list of bytes does not decode: fewer bytes than the addressed encoding requires (60_exceptions.md R99). -/
inductive DecodeReject where
  | tooFewBytes (needed given : Nat)
  deriving DecidableEq, Repr

/-- Decoding bytes fetched at `vaddr`: the instruction and the bytes after it. The consumed length is 2 bytes in compressed
mode and 4 otherwise (20_memory.md R32). -/
def decodeBytes (v : Variant) (e : Endian) (vaddr : Word) (bytes : List Byte) :
    Except DecodeReject (Instr × List Byte) :=
  if vaddr.getLsbD 0 then
    match bytes with
    | b0 :: b1 :: rest => .ok (decodeInstr v (assembleHalf e b0 b1) vaddr, rest)
    | short => .error (.tooFewBytes 2 short.length)
  else
    match bytes with
    | b0 :: b1 :: b2 :: b3 :: rest => .ok (decodeInstr v (assembleWord e b0 b1 b2 b3) vaddr, rest)
    | short => .error (.tooFewBytes 4 short.length)

/-- The bytes of an instruction in an instance's byte order. -/
def encodeBytes (e : Endian) (i : Instr) : List Byte :=
  if i.isCompressed then layoutHalf e (encode i) else layoutWord e (encode i)

/-- The decoder's answer on one variant for a row of the opcode table, laid out as bytes at address 0, or in compressed
mode at address 1 for the row of 16 bits. -/
def decodeTableWordOn (v : Variant) (nbits w : Nat) : Option Instr :=
  match decodeBytes v .big (if nbits = 16 then 1#64 else 0#64)
      (if nbits = 16 then layoutHalf .big (BitVec.ofNat 32 w) else layoutWord .big (BitVec.ofNat 32 w)) with
  | .ok (i, _) => some i
  | .error _ => none

/-- The instruction the decoder reads from a word of the opcode table. The table lists rows of every variant, so a number
with no name on the Standard variant is read on the R5900 (log 27). -/
def decodeTableWord (nbits w : Nat) : Option Instr :=
  match decodeTableWordOn .standard nbits w with
  | some (.unrecognized _) => decodeTableWordOn .r5900 nbits w
  | answer => answer

end Sys2Proof
end

