-- ==== Sys2Proof/Machine/Cell.lean ====
section
/-! DEFINITION. The Instruction Cell and what a translation produces, as plain data (10_state.md R18 to R22; 41_translator.md
R68, R76). -/

namespace Sys2Proof.Machine

/-- The closed enumeration of executable cell semantics (10_state.md R19). -/
inductive OperationId where
  | nop
  | addImmTrunc32
  | addTrunc32
  | addImm64
  | add64
  | andImm
  | orImm
  | xorImm
  | setImm
  | shiftLeftImmTrunc32
  | invalid
  deriving DecidableEq, Repr

/-- A bound operand (10_state.md R20): a register by index, or an immediate scalar as an integer. The bounds of the scalars
are part of `Cell.wf`. -/
inductive OperandBinding where
  | reg (i : RegIdx)
  | sImm (v : Int)
  | uImm (v : Nat)
  deriving DecidableEq, Repr

/-- Why a cell is `Invalid` (10_state.md R21). -/
inductive Reason where
  | unimplemented
  | isaMismatch
  | width64On32
  deriving DecidableEq, Repr

/-- The Instruction Cell (10_state.md R18). `reasons` is empty unless the operation is `invalid` (R21). -/
structure Cell where
  operation : OperationId
  operands  : List OperandBinding
  reasons   : List Reason
  deriving DecidableEq, Repr

/-- A translation-cache entry (10_state.md R22). -/
structure Entry where
  word : InstrWord
  cell : Cell
  deriving DecidableEq, Repr

/-- A diagnostic record (41_translator.md R75, R76; `preRunRefused`: 60_exceptions.md R94, R96). -/
inductive Diag where
  | unimplemented (vaddr : Word) (word : InstrWord)
  | isaMismatch (vaddr : Word) (word : InstrWord) (requiredLevel : IsaLevel) (requiredRevision : IsaRevision)
      (level : IsaLevel) (revision : IsaRevision)
  | width64On32 (vaddr : Word) (word : InstrWord) (requiredLevel : IsaLevel) (width : BitWidth)
  | preRunRefused
  deriving DecidableEq, Repr

/-- The operand shapes of the mapping table (41_translator.md R68). -/
inductive Shape where
  | rdRsRt
  | rtRsSimm
  | rtRsUimm
  | rtSimmHi
  | rdRtSa
  deriving DecidableEq, Repr

/-- One row of the mapping table (41_translator.md R68). -/
structure OpSpec where
  op     : OperationId
  shape  : Shape
  reqIsa : IsaLevel
  reqRev : IsaRevision
  deriving DecidableEq, Repr

end Sys2Proof.Machine

/-- The text of a diagnostic, OPEN (41_translator.md R76 `DiagText`; 92_eei_decisions.md D14). -/
opaque Sys2Proof.Config.diagText : Sys2Proof.Machine.Diag → String
end

