-- ==== Sys2Proof/Machine/State.lean ====
section
/-! DEFINITION. The machine's state as plain data (10_state.md), the reasons a step can stop, and the state after reset. -/

namespace Sys2Proof.Machine

/-- The external fetch's memory (41_translator.md R78): bytes by virtual address, addresses strictly rising. An unlisted
address holds no byte the fetch can supply (log 1, log 2). -/
abbrev Memory := List Host.Cell

/-- Keys strictly rise: the canonical form of a finite map as a list. -/
abbrev keysRise {α : Type} (l : List (Nat × α)) : Prop :=
  l.Pairwise (fun a b => a.1 < b.1)

/-- The canonical form of a memory: addresses strictly rise and are 64-bit. -/
abbrev Memory.wf (m : Memory) : Prop :=
  keysRise m ∧ ∀ c ∈ m, c.1 < 2 ^ 64

/-- The machine's state. -/
structure State where
  /-- The Processor Model Descriptor (R9, R10). Nothing after construction writes it. -/
  desc     : Descriptor
  /-- The general registers x[0] to x[31] (R12). Slot 0 is ordinary storage (R13). -/
  gpr      : Vector Word 32
  /-- HI (R14). -/
  hi       : Word
  /-- LO (R14). -/
  lo       : Word
  /-- The program counter with the compressed-mode flag in bit 0 (R15). -/
  pc       : Word
  /-- The page size (R16). -/
  pageSize : Nat
  /-- The byte order (R17). -/
  endian   : Endian
  /-- The translation cache by `pc` value (R22), keys strictly rising. -/
  cache    : List (Nat × Entry)
  /-- The diagnostics handed to the UI sink, oldest first (41_translator.md R76; log 9). -/
  sink     : List Diag
  /-- The model's own: a run is in progress, its pre-run check past (60_exceptions.md R96; log 7). -/
  running  : Bool
  /-- The external fetch's memory (41_translator.md R78; log 1). -/
  mem      : Memory
  deriving DecidableEq, Repr

/-- The reasons the machine stops with a fault. -/
inductive Fault where
  /-- `UnimplementedInstruction` (60_exceptions.md R100; 42_cell_operations.md R92): raised by executing an `Invalid` cell. It
  records the cell's key and reasons, and `after`, the state the stopped run leaves: registers and `pc` unchanged,
  the cache and the sink as the translation left them. The stop is the spec's own (safe, log 8). -/
  | unimplementedInstruction (key : Word) (reasons : List Reason) (after : State)
  /-- The external fetch cannot supply a byte of the instruction at `key`: the boot requirement 70_reset_and_hazards.md R111 (4)
  does not hold. Raised by the driver's step on a miss. Safe (log 2). -/
  | fetchUnavailable (key : Word)
  /-- A cell that is not one of 41_translator.md R80. No translation makes one. Raised by executing such a cell. Safe
  (log 19). -/
  | malformedCell (key : Word)
  deriving DecidableEq, Repr

/-- The reasons the machine refuses. -/
inductive Refusal where
  /-- An instruction without a meaning yet: raised by an arm of `exec` only. Safe. -/
  | notModelled (mnemonic : String)
  /-- `PreRunRefused` (60_exceptions.md R96): a run start with `x[0] ≠ 0`. `after` is the state it leaves: one diagnostic
  more and no run active (log 7), nothing else changed. Raised by the run start. The refusal is the spec's own (safe, log 22). -/
  | preRunRefused (after : State)
  /-- A set of the model name after construction (10_state.md R27; 90_conflicts.md C4): it has no move. Raised by the
  transaction of that name. The refusal is the spec's own (log 23). -/
  | modelNameFixed (name : String)
  deriving DecidableEq, Repr

/-- The outcome of a step of this machine. -/
abbrev Outcome := Host.Outcome State Fault Refusal

/-- The state of a new instance (10_state.md R26; 70_reset_and_hazards.md R109): the Register File zeroed, the cache empty,
no diagnostic emitted. -/
def State.fresh (d : Descriptor) (e : Endian) : State :=
  { desc     := d
    gpr      := Vector.replicate 32 0#64
    hi       := 0#64
    lo       := 0#64
    pc       := 0#64
    pageSize := Config.pageSize
    endian   := e
    cache    := []
    sink     := []
    running  := false
    mem      := [] }

/-- The machine right after reset (10_state.md R26). The descriptor and byte order of the instance are DESIGN CHOICES
(unsafe, log 4 and log 5), and no run is active (DESIGN CHOICE, log 7). -/
def State.reset : State :=
  State.fresh Config.referenceModel Config.referenceEndian

end Sys2Proof.Machine
end

