-- ==== Sys2Proof/Machine/Flags.lean ====
section
/-! DEFINITION. The one flag of the machine: bit 0 of `pc`, the compressed-mode flag (10_state.md R15). There are no
condition flags (R25), so no instruction computes one. -/

namespace Sys2Proof.Machine

/-- `pcaddr(pc) = pc & ~1`, the numeric fetch address (10_state.md R15; 00_scope.md R7). -/
def pcaddr (pc : Word) : Word := pc &&& ~~~1#64

/-- `pcmode(pc) = pc[0]`, set in compressed mode (10_state.md R15; 00_scope.md R7). -/
def pcmode (pc : Word) : Bool := pc.getLsbD 0

/-- The consumed length in bytes of the instruction at a `pc` value (30_encoding.md R43; 20_memory.md R32). -/
def consumedLength (pc : Word) : Nat := if pcmode pc then 2 else 4

end Sys2Proof.Machine
end

