-- ==== Sys2Proof/Machine/Operands.lean ====
section
/-! DEFINITION. The operand forms: immediate extension (30_encoding.md R48), target arithmetic (R49, R50), the binding of
each shape (41_translator.md R70), and how a cell's bound operands are read back (42_cell_operations.md R81). -/

namespace Sys2Proof.Machine

/-- Truncate to 32 bits and sign-extend to 64: `sext_64(r[31:0])` (42_cell_operations.md R83, R84). -/
def truncSext32 (r : Word) : Word := (r.setWidth 32).signExtend 64

/-- LUI's 32-bit value `{imm16, 0x0000}` (30_encoding.md R48; 41_translator.md R70). -/
def luiValue (imm : Imm16) : BitVec 32 := imm ++ 0#16

/-- The target of a PC-relative branch fetched at `vaddr` (30_encoding.md R49). Annotation only: no cell branches. -/
def branchTarget (vaddr : Word) (imm : Imm16) : Word :=
  pcaddr vaddr + 4#64 + (imm.signExtend 64 <<< 2)

/-- The target of a J-type jump fetched at `vaddr` (30_encoding.md R50). Annotation only: no cell jumps. -/
def jumpTarget (vaddr : Word) (target26 : BitVec 26) : Word :=
  ((pcaddr vaddr + 4#64) &&& ~~~0x0FFFFFFF#64) ||| (target26.setWidth 64 <<< 2)

/-- The destination register index of a shape (41_translator.md R70). -/
def Shape.dest (sh : Shape) (f : Fields) : RegIdx :=
  match sh with
  | .rdRsRt | .rdRtSa => f.rd
  | .rtRsSimm | .rtRsUimm | .rtSimmHi => f.rt

/-- The operands of three-register arithmetic (41_translator.md R70). -/
def bindRdRsRt (rs rt rd : RegIdx) : List OperandBinding := [.reg rd, .reg rs, .reg rt]

/-- The operands of signed immediate arithmetic (41_translator.md R70). -/
def bindRtRsSimm (rs rt : RegIdx) (imm : Imm16) : List OperandBinding := [.reg rt, .reg rs, .sImm imm.toInt]

/-- The operands of the logical immediates (41_translator.md R70). -/
def bindRtRsUimm (rs rt : RegIdx) (imm : Imm16) : List OperandBinding := [.reg rt, .reg rs, .uImm imm.toNat]

/-- The operands of LUI (41_translator.md R70). -/
def bindRtSimmHi (rt : RegIdx) (imm : Imm16) : List OperandBinding := [.reg rt, .sImm (luiValue imm).toInt]

/-- The operands of SLL (41_translator.md R70). -/
def bindRdRtSa (rt rd : RegIdx) (sa : BitVec 5) : List OperandBinding := [.reg rd, .reg rt, .uImm sa.toNat]

/-- The operands a shape binds from a classification (41_translator.md R70). -/
def Shape.bind (sh : Shape) (f : Fields) : List OperandBinding :=
  match sh with
  | .rdRsRt => bindRdRsRt f.rs f.rt f.rd
  | .rtRsSimm => bindRtRsSimm f.rs f.rt f.imm16
  | .rtRsUimm => bindRtRsUimm f.rs f.rt f.imm16
  | .rtSimmHi => bindRtSimmHi f.rt f.imm16
  | .rdRtSa => bindRdRtSa f.rt f.rd f.sa

/-- Run `k` on the operands (Reg, Reg, Reg); another list is no cell of 41_translator.md R80. -/
def onRegRegReg (ops : List OperandBinding) (s : State) (k : RegIdx → RegIdx → RegIdx → State) : Outcome :=
  match ops with
  | [.reg a, .reg b, .reg c] => .next (k a b c)
  | _ => .fault (.malformedCell s.pc)

/-- Run `k` on the operands (Reg, Reg, SImm). -/
def onRegRegSImm (ops : List OperandBinding) (s : State) (k : RegIdx → RegIdx → Int → State) : Outcome :=
  match ops with
  | [.reg a, .reg b, .sImm v] => .next (k a b v)
  | _ => .fault (.malformedCell s.pc)

/-- Run `k` on the operands (Reg, Reg, UImm). -/
def onRegRegUImm (ops : List OperandBinding) (s : State) (k : RegIdx → RegIdx → Nat → State) : Outcome :=
  match ops with
  | [.reg a, .reg b, .uImm v] => .next (k a b v)
  | _ => .fault (.malformedCell s.pc)

/-- Run `k` on the operands (Reg, SImm). -/
def onRegSImm (ops : List OperandBinding) (s : State) (k : RegIdx → Int → State) : Outcome :=
  match ops with
  | [.reg a, .sImm v] => .next (k a v)
  | _ => .fault (.malformedCell s.pc)

/-- Run `k` on no operands. -/
def onNone (ops : List OperandBinding) (s : State) (k : State) : Outcome :=
  match ops with
  | [] => .next k
  | _ => .fault (.malformedCell s.pc)

end Sys2Proof.Machine
end

