-- ==== Sys2Proof/Machine/Ops.lean ====
section
/-! DEFINITION. The named operations over the state: finite maps, registers, the external memory and its fetch, the
translation cache, the sink, the start and stop of a run, and raising the machine's one condition. -/

namespace Sys2Proof.Machine

/-! ### Finite maps with rising keys -/

/-- The value at a key. -/
def assocGet {α : Type} : List (Nat × α) → Nat → Option α
  | [], _ => none
  | (k, v) :: rest, key => if k = key then some v else assocGet rest key

/-- Set the value at a key, keeping the keys rising. -/
def assocPut {α : Type} : List (Nat × α) → Nat → α → List (Nat × α)
  | [], key, v => [(key, v)]
  | (k, u) :: rest, key, v =>
    if key < k then (key, v) :: (k, u) :: rest
    else if key = k then (key, v) :: rest
    else (k, u) :: assocPut rest key v

/-- Remove a key. -/
def assocErase {α : Type} (l : List (Nat × α)) (key : Nat) : List (Nat × α) :=
  l.filter (fun p => p.1 != key)

/-! ### Registers -/

/-- `x[i]` (00_scope.md R7). Slot 0 is ordinary storage (10_state.md R13). -/
def State.readGpr (s : State) (i : RegIdx) : Word := s.gpr[i.toNat]'i.isLt

/-- `x[i] <- v` (00_scope.md R7). -/
def State.writeGpr (s : State) (i : RegIdx) (v : Word) : State :=
  { s with gpr := s.gpr.set i.toNat v i.isLt }

/-- The driver's advance of `pc` after a cell other than `Invalid`: `pc + 4` modulo 2^64 (42_cell_operations.md R93). Every
cell of compressed mode is `Invalid`, so it is used in normal mode only. -/
def State.advancePc (s : State) : State := { s with pc := s.pc + 4#64 }

/-! ### The external memory and its fetch -/

/-- `MemRead(addr, 1)` of the external memory (00_scope.md R7): no value where nothing is listed (log 2). -/
def Memory.readByte (m : Memory) (addr : Word) : Option Byte := assocGet m addr.toNat

/-- Store one byte in the external memory. -/
def Memory.writeByte (m : Memory) (addr : Word) (b : Byte) : Memory := assocPut m addr.toNat b

/-- Store bytes at rising addresses, modulo 2^64. -/
def Memory.writeBytes : Memory → Word → List Byte → Memory
  | m, _, [] => m
  | m, addr, b :: rest => Memory.writeBytes (m.writeByte addr b) (addr + 1#64) rest

/-- The external fetch of the instruction at `pc` (41_translator.md R78; 20_memory.md R29 to R31): 4 bytes, or 2 in
compressed mode, from the numeric address, in the instance's byte order. Addresses are taken modulo 2^64 (log 3). -/
def fetchWord (m : Memory) (e : Endian) (pc : Word) : Option InstrWord :=
  let a := pcaddr pc
  if pcmode pc then
    match m.readByte a, m.readByte (a + 1#64) with
    | some b0, some b1 => some (assembleHalf e b0 b1)
    | _, _ => none
  else
    match m.readByte a, m.readByte (a + 1#64), m.readByte (a + 2#64), m.readByte (a + 3#64) with
    | some b0, some b1, some b2, some b3 => some (assembleWord e b0 b1 b2 b3)
    | _, _, _, _ => none

/-! ### The translation cache -/

/-- `cache[k]` (00_scope.md R7; 10_state.md R22): the key is the full `pc` value. -/
def State.lookup (s : State) (key : Word) : Option Entry := assocGet s.cache key.toNat

/-- The fill after a miss (41_translator.md R79). -/
def State.fill (s : State) (key : Word) (e : Entry) : State :=
  { s with cache := assocPut s.cache key.toNat e }

/-- Do the instruction bytes of a cache key overlap the range [lo, hi) (20_memory.md R41)? The arithmetic is on unbounded
integers. -/
def keyOverlaps (key : Nat) (lo hi : Int) : Bool :=
  let n : Int := (key - key % 2 : Nat)
  let len : Int := if key % 2 = 1 then 2 else 4
  decide (max n lo < min (n + len) hi)

/-- `invalidate(lo, hi)` (20_memory.md R41): remove every entry whose instruction bytes overlap [lo, hi). -/
def State.invalidateRange (s : State) (lo hi : Int) : State :=
  { s with cache := s.cache.filter (fun p => !keyOverlaps p.1 lo hi) }

/-- `invalidate(a) = invalidate(a, a+1)` (20_memory.md R41). -/
def State.invalidateAddress (s : State) (a : Int) : State := s.invalidateRange a (a + 1)

/-! ### The sink -/

/-- Hand diagnostics to the UI sink (41_translator.md R76; 60_exceptions.md R105). -/
def State.emit (s : State) (ds : List Diag) : State := { s with sink := s.sink ++ ds }

/-! ### Runs and conditions -/

/-- The run is over (60_exceptions.md R100). DESIGN CHOICE (log 7): the flag is the model's, and log 7 lists what ends a run. -/
def State.endRun (s : State) : State := { s with running := false }

/-- Raise `UnimplementedInstruction` for the cell at `pc` (42_cell_operations.md R92; 60_exceptions.md R100): the run stops, and
no register, `pc` or cache state changes. The machine has no trap entry and no return from one (60_exceptions.md
R104), so this is the whole of taking a condition. -/
def raiseUnimplemented (reasons : List Reason) (s : State) : Outcome :=
  .fault (.unimplementedInstruction s.pc reasons s.endRun)

/-- The start of a run (60_exceptions.md R96): refused with one diagnostic if `x[0] ≠ 0`. DESIGN CHOICE (log 7): the spec has no
start inside a run; asked for there, it makes the same check. A refused start leaves no run active wherever it is asked
for, so that no cell executes before a start that passes. -/
def startRun (s : State) : Outcome :=
  if s.readGpr 0#5 = 0#64 then .next { s with running := true }
  else .refused (.preRunRefused (s.emit [.preRunRefused]).endRun)

/-- Within a run the check is past; otherwise a run starts here (60_exceptions.md R96; log 7). -/
def ensureRun (s : State) : Outcome :=
  if s.running then .next s else startRun s

/-- Go on with a next state; a fault or a refusal stays. -/
def andThen (o : Outcome) (k : State → Outcome) : Outcome :=
  match o with
  | .next s => k s
  | .fault r => .fault r
  | .refused r => .refused r

end Sys2Proof.Machine
end

