-- ==== Sys2Proof/Machine/OpMap.lean ====
section
/-! DEFINITION. The mapping table and the ISA-legality validator (41_translator.md R68, R69, R73, R74). -/

namespace Sys2Proof.Machine

/-- The numeric code of an ISA level (10_state.md R9). -/
def levelCode : IsaLevel → Nat
  | .l1 => 1
  | .l2 => 2
  | .l3 => 3
  | .l4 => 4
  | .l32 => 32
  | .l64 => 64

/-- The numeric code of an ISA revision (10_state.md R9). -/
def revisionCode : IsaRevision → Nat
  | .r1 => 1
  | .r2 => 2

/-- The bit width of a processor, derived from its ISA level (10_state.md R11). -/
def bitWidth (d : Descriptor) : BitWidth :=
  match d.isaLevel with
  | .l1 | .l2 | .l32 => .w32
  | .l3 | .l4 | .l64 => .w64

/-! ### The rows of the default `OpMap` (41_translator.md R69) -/

/-- SLL: primary 0, secondary 0. -/
def specSll : OpSpec := ⟨.shiftLeftImmTrunc32, .rdRtSa, .l1, .r1⟩
/-- ADDU: primary 0, secondary 33. -/
def specAddu : OpSpec := ⟨.addTrunc32, .rdRsRt, .l1, .r1⟩
/-- DADDU: primary 0, secondary 45. -/
def specDaddu : OpSpec := ⟨.add64, .rdRsRt, .l3, .r1⟩
/-- ADDIU: primary 9. -/
def specAddiu : OpSpec := ⟨.addImmTrunc32, .rtRsSimm, .l1, .r1⟩
/-- ANDI: primary 12. -/
def specAndi : OpSpec := ⟨.andImm, .rtRsUimm, .l1, .r1⟩
/-- ORI: primary 13. -/
def specOri : OpSpec := ⟨.orImm, .rtRsUimm, .l1, .r1⟩
/-- XORI: primary 14. -/
def specXori : OpSpec := ⟨.xorImm, .rtRsUimm, .l1, .r1⟩
/-- LUI: primary 15. -/
def specLui : OpSpec := ⟨.setImm, .rtSimmHi, .l1, .r1⟩
/-- DADDIU: primary 25. -/
def specDaddiu : OpSpec := ⟨.addImm64, .rtRsSimm, .l3, .r1⟩

/-- The default `OpMap` (41_translator.md R68, R69): only primary, secondary and variant select a row, and every row is the
same for all variants (30_encoding.md R56). -/
def opMap (primary : BitVec 6) (secondary : Option (BitVec 6)) (_variant : Variant) : Option OpSpec :=
  match primary, secondary with
  | 0#6, some 0#6 => some specSll
  | 0#6, some 33#6 => some specAddu
  | 0#6, some 45#6 => some specDaddu
  | 9#6, none => some specAddiu
  | 12#6, none => some specAndi
  | 13#6, none => some specOri
  | 14#6, none => some specXori
  | 15#6, none => some specLui
  | 25#6, none => some specDaddiu
  | _, _ => none

/-! ### The legality checks -/

/-- Check (2), ISA level and revision (41_translator.md R73). -/
def failsLevelRev (sp : OpSpec) (d : Descriptor) : Bool :=
  decide (levelCode d.isaLevel < levelCode sp.reqIsa) ||
  ((sp.reqIsa == .l32 || sp.reqIsa == .l64) && decide (revisionCode d.isaRevision < revisionCode sp.reqRev))

/-- Check (3), a 64-bit operation on a 32-bit processor (41_translator.md R74). -/
def fails64on32 (sp : OpSpec) (d : Descriptor) : Bool :=
  (sp.reqIsa == .l3 || sp.reqIsa == .l4) && bitWidth d == .w32

/-- The reasons of a row that is not legal on a processor, in the order of the checks (41_translator.md R75). -/
def illegalReasons (sp : OpSpec) (d : Descriptor) : List Reason :=
  (if failsLevelRev sp d then [.isaMismatch] else []) ++ (if fails64on32 sp d then [.width64On32] else [])

/-- The diagnostics of a row that is not legal on a processor, one for each failed check (41_translator.md R75). -/
def illegalDiags (sp : OpSpec) (d : Descriptor) (word : InstrWord) (vaddr : Word) : List Diag :=
  (if failsLevelRev sp d then [.isaMismatch vaddr word sp.reqIsa sp.reqRev d.isaLevel d.isaRevision] else []) ++
  (if fails64on32 sp d then [.width64On32 vaddr word sp.reqIsa (bitWidth d)] else [])

end Sys2Proof.Machine
end

