-- ==== Sys2Proof/Machine/Translator.lean ====
section
/-! DEFINITION. The Dynamic Translator: from a word and its address to an Instruction Cell and its diagnostics
(41_translator.md R67 to R77), and the well-formedness of cells (R80). -/

namespace Sys2Proof.Machine

/-- The no-op cell (41_translator.md R71). -/
def Cell.nop : Cell := ⟨.nop, [], []⟩

/-- An invalid cell: no operands, the reasons (10_state.md R21). -/
def Cell.invalid (reasons : List Reason) : Cell := ⟨.invalid, [], reasons⟩

/-- The cell of a row of the mapping table with its destination and bound operands (41_translator.md R75): `Invalid` if a
legality check fails, else a no-op if the destination is register 0, else the row's operation. -/
def rowCell (d : Descriptor) (sp : OpSpec) (dest : RegIdx) (operands : List OperandBinding) : Cell :=
  if illegalReasons sp d ≠ [] then Cell.invalid (illegalReasons sp d)
  else if dest = 0#5 then Cell.nop
  else ⟨sp.op, operands, []⟩

/-- The translation of a classification (41_translator.md R75, R77): the compressed placeholder and an encoding with no row
give `Invalid [Unimplemented]` with one diagnostic. -/
def translateClass (d : Descriptor) (word : InstrWord) (c : Classification) : Cell × List Diag :=
  match c with
  | .compressedPlaceholder _ vaddr => (Cell.invalid [.unimplemented], [.unimplemented vaddr word])
  | .normal f =>
    match opMap f.primary f.secondary d.variant with
    | none => (Cell.invalid [.unimplemented], [.unimplemented f.vaddr word])
    | some sp => (rowCell d sp (sp.shape.dest f) (sp.shape.bind f), illegalDiags sp d word f.vaddr)

/-- `translate(word, vaddr)` (41_translator.md R67, R75). It reads no register value and writes no state. -/
def translateWord (d : Descriptor) (word : InstrWord) (vaddr : Word) : Cell × List Diag :=
  translateClass d word (decode word vaddr)

/-- A signed immediate scalar's bounds (10_state.md R20). -/
def sImmInBounds (v : Int) : Bool := decide (-2 ^ 31 ≤ v) && decide (v < 2 ^ 31)

/-- An unsigned immediate scalar's bounds (10_state.md R20). -/
def uImmInBounds (v : Nat) : Bool := decide (v < 2 ^ 32)

/-- The well-formed cells (41_translator.md R80). -/
def Cell.wf (c : Cell) : Bool :=
  match c.operation, c.operands with
  | .nop, [] => c.reasons == []
  | .invalid, [] => c.reasons != []
  | .addImmTrunc32, [.reg t, .reg _, .sImm v] | .addImm64, [.reg t, .reg _, .sImm v] =>
    t != 0#5 && sImmInBounds v && c.reasons == []
  | .addTrunc32, [.reg d, .reg _, .reg _] | .add64, [.reg d, .reg _, .reg _] => d != 0#5 && c.reasons == []
  | .andImm, [.reg t, .reg _, .uImm v] | .orImm, [.reg t, .reg _, .uImm v] | .xorImm, [.reg t, .reg _, .uImm v]
  | .shiftLeftImmTrunc32, [.reg t, .reg _, .uImm v] => t != 0#5 && uImmInBounds v && c.reasons == []
  | .setImm, [.reg t, .sImm v] => t != 0#5 && sImmInBounds v && c.reasons == []
  | _, _ => false

end Sys2Proof.Machine
end

