-- ==== Sys2Proof/Machine/CellOps.lean ====
section
/-! DEFINITION. The Instruction Cell operations (42_cell_operations.md R81 to R92). Each reads its sources before it writes its
destination; none writes `hi`, `lo`, `pc`, the descriptor or the cache, and none accesses memory. -/

namespace Sys2Proof.Machine

/-- `AddImmTrunc32` (42_cell_operations.md R83). -/
def opAddImmTrunc32 (s : State) (t b : RegIdx) (i : Int) : State :=
  s.writeGpr t (truncSext32 (s.readGpr b + BitVec.ofInt 64 i))

/-- `AddTrunc32` (42_cell_operations.md R84). -/
def opAddTrunc32 (s : State) (d a b : RegIdx) : State :=
  s.writeGpr d (truncSext32 (s.readGpr a + s.readGpr b))

/-- `AddImm64` (42_cell_operations.md R85). -/
def opAddImm64 (s : State) (t b : RegIdx) (i : Int) : State :=
  s.writeGpr t (s.readGpr b + BitVec.ofInt 64 i)

/-- `Add64` (42_cell_operations.md R86). -/
def opAdd64 (s : State) (d a b : RegIdx) : State :=
  s.writeGpr d (s.readGpr a + s.readGpr b)

/-- `AndImm` (42_cell_operations.md R87). -/
def opAndImm (s : State) (t b : RegIdx) (u : Nat) : State :=
  s.writeGpr t (s.readGpr b &&& BitVec.ofNat 64 u)

/-- `OrImm` (42_cell_operations.md R88). -/
def opOrImm (s : State) (t b : RegIdx) (u : Nat) : State :=
  s.writeGpr t (s.readGpr b ||| BitVec.ofNat 64 u)

/-- `XorImm` (42_cell_operations.md R89). -/
def opXorImm (s : State) (t b : RegIdx) (u : Nat) : State :=
  s.writeGpr t (s.readGpr b ^^^ BitVec.ofNat 64 u)

/-- `SetImm` (42_cell_operations.md R90): the scalar as a 32-bit value, sign-extended. -/
def opSetImm (s : State) (t : RegIdx) (v : Int) : State :=
  s.writeGpr t ((BitVec.ofInt 32 v).signExtend 64)

/-- `ShiftLeftImmTrunc32` (42_cell_operations.md R91). -/
def opShiftLeftImmTrunc32 (s : State) (d t : RegIdx) (a : Nat) : State :=
  s.writeGpr d ((((s.readGpr t).setWidth 32) <<< a).signExtend 64)

/-- `execute(cell)` (42_cell_operations.md R81): the operation on its operands; an `Invalid` cell's operation does not run and the
condition is raised instead (R92). -/
def executeCell (c : Cell) (s : State) : Outcome :=
  match c.operation with
  | .nop => onNone c.operands s s
  | .addImmTrunc32 => onRegRegSImm c.operands s (opAddImmTrunc32 s)
  | .addTrunc32 => onRegRegReg c.operands s (opAddTrunc32 s)
  | .addImm64 => onRegRegSImm c.operands s (opAddImm64 s)
  | .add64 => onRegRegReg c.operands s (opAdd64 s)
  | .andImm => onRegRegUImm c.operands s (opAndImm s)
  | .orImm => onRegRegUImm c.operands s (opOrImm s)
  | .xorImm => onRegRegUImm c.operands s (opXorImm s)
  | .setImm => onRegSImm c.operands s (opSetImm s)
  | .shiftLeftImmTrunc32 => onRegRegUImm c.operands s (opShiftLeftImmTrunc32 s)
  | .invalid => raiseUnimplemented c.reasons s

/-- An instruction of a row of the mapping table: its cell on this processor, executed. -/
def executeRow (sp : OpSpec) (dest : RegIdx) (operands : List OperandBinding) (s : State) : Outcome :=
  executeCell (rowCell s.desc sp dest operands) s

/-- An instruction with no row in the mapping table: its cell is `Invalid [Unimplemented]` (41_translator.md R72, R77), and
executing it raises the condition (42_cell_operations.md R92). -/
def executeUnimplemented (s : State) : Outcome :=
  executeCell (Cell.invalid [.unimplemented]) s

end Sys2Proof.Machine
end

