-- ==== Sys2Proof/Machine/ControlFlow.lean ====
section
/-! DEFINITION. The jumps and branches (30_encoding.md R52 to R54, R61; 70_reset_and_hazards.md R115).
One meaning per instruction. -/

namespace Sys2Proof.Machine

/-- JR: no row of the default `OpMap` (41_translator.md R69), so `Invalid [Unimplemented]` (R72). -/
def execJr (_rs _rt _rd : RegIdx) (_sa : BitVec 5) (s : State) : Outcome :=
  executeUnimplemented s

/-- JALR: no row of the default `OpMap` (41_translator.md R69), so `Invalid [Unimplemented]` (R72). -/
def execJalr (_rs _rt _rd : RegIdx) (_sa : BitVec 5) (s : State) : Outcome :=
  executeUnimplemented s

/-- BLTZ: no row of the default `OpMap` (41_translator.md R69), so `Invalid [Unimplemented]` (R72). -/
def execBltz (_rs : RegIdx) (_imm : Imm16) (s : State) : Outcome :=
  executeUnimplemented s

/-- BGEZ: no row of the default `OpMap` (41_translator.md R69), so `Invalid [Unimplemented]` (R72). -/
def execBgez (_rs : RegIdx) (_imm : Imm16) (s : State) : Outcome :=
  executeUnimplemented s

/-- BLTZL: no row of the default `OpMap` (41_translator.md R69), so `Invalid [Unimplemented]` (R72). -/
def execBltzl (_rs : RegIdx) (_imm : Imm16) (s : State) : Outcome :=
  executeUnimplemented s

/-- BGEZL: no row of the default `OpMap` (41_translator.md R69), so `Invalid [Unimplemented]` (R72). -/
def execBgezl (_rs : RegIdx) (_imm : Imm16) (s : State) : Outcome :=
  executeUnimplemented s

/-- BLTZAL: no row of the default `OpMap` (41_translator.md R69), so `Invalid [Unimplemented]` (R72). -/
def execBltzal (_rs : RegIdx) (_imm : Imm16) (s : State) : Outcome :=
  executeUnimplemented s

/-- BGEZAL: no row of the default `OpMap` (41_translator.md R69), so `Invalid [Unimplemented]` (R72). -/
def execBgezal (_rs : RegIdx) (_imm : Imm16) (s : State) : Outcome :=
  executeUnimplemented s

/-- BLTZALL: no row of the default `OpMap` (41_translator.md R69), so `Invalid [Unimplemented]` (R72). -/
def execBltzall (_rs : RegIdx) (_imm : Imm16) (s : State) : Outcome :=
  executeUnimplemented s

/-- BGEZALL: no row of the default `OpMap` (41_translator.md R69), so `Invalid [Unimplemented]` (R72). -/
def execBgezall (_rs : RegIdx) (_imm : Imm16) (s : State) : Outcome :=
  executeUnimplemented s

/-- J: no row of the default `OpMap` (41_translator.md R69), so `Invalid [Unimplemented]` (R72). -/
def execJ (_target : BitVec 26) (s : State) : Outcome :=
  executeUnimplemented s

/-- JAL: no row of the default `OpMap` (41_translator.md R69), so `Invalid [Unimplemented]` (R72). -/
def execJal (_target : BitVec 26) (s : State) : Outcome :=
  executeUnimplemented s

/-- BEQ: no row of the default `OpMap` (41_translator.md R69), so `Invalid [Unimplemented]` (R72). -/
def execBeq (_rs _rt : RegIdx) (_imm : Imm16) (s : State) : Outcome :=
  executeUnimplemented s

/-- BNE: no row of the default `OpMap` (41_translator.md R69), so `Invalid [Unimplemented]` (R72). -/
def execBne (_rs _rt : RegIdx) (_imm : Imm16) (s : State) : Outcome :=
  executeUnimplemented s

/-- BLEZ: no row of the default `OpMap` (41_translator.md R69), so `Invalid [Unimplemented]` (R72). -/
def execBlez (_rs _rt : RegIdx) (_imm : Imm16) (s : State) : Outcome :=
  executeUnimplemented s

/-- BGTZ: no row of the default `OpMap` (41_translator.md R69), so `Invalid [Unimplemented]` (R72). -/
def execBgtz (_rs _rt : RegIdx) (_imm : Imm16) (s : State) : Outcome :=
  executeUnimplemented s

/-- BEQL: no row of the default `OpMap` (41_translator.md R69), so `Invalid [Unimplemented]` (R72). -/
def execBeql (_rs _rt : RegIdx) (_imm : Imm16) (s : State) : Outcome :=
  executeUnimplemented s

/-- BNEL: no row of the default `OpMap` (41_translator.md R69), so `Invalid [Unimplemented]` (R72). -/
def execBnel (_rs _rt : RegIdx) (_imm : Imm16) (s : State) : Outcome :=
  executeUnimplemented s

/-- BLEZL: no row of the default `OpMap` (41_translator.md R69), so `Invalid [Unimplemented]` (R72). -/
def execBlezl (_rs _rt : RegIdx) (_imm : Imm16) (s : State) : Outcome :=
  executeUnimplemented s

/-- BGTZL: no row of the default `OpMap` (41_translator.md R69), so `Invalid [Unimplemented]` (R72). -/
def execBgtzl (_rs _rt : RegIdx) (_imm : Imm16) (s : State) : Outcome :=
  executeUnimplemented s

/-- JALX: no row of the default `OpMap` (41_translator.md R69), so `Invalid [Unimplemented]` (R72). -/
def execJalx (_target : BitVec 26) (s : State) : Outcome :=
  executeUnimplemented s

/-- B, the idiom of BEQ, which the translator treats as BEQ (30_encoding.md R61): no row of the default `OpMap`. -/
def execB (_imm : Imm16) (s : State) : Outcome :=
  executeUnimplemented s

end Sys2Proof.Machine
end

