-- ==== Sys2Proof/Machine/Coprocessor.lean ====
section
/-! DEFINITION. The coprocessor, SPECIAL2 and SPECIAL3 groups and the coprocessor loads and stores (30_encoding.md R55).
One meaning per instruction. -/

namespace Sys2Proof.Machine

/-- COP0_group: decode-recognized and untranslated (30_encoding.md R55), so `Invalid [Unimplemented]` (41_translator.md R72). -/
def execCop0 (_rs _rt _rd : RegIdx) (_sa : BitVec 5) (_funct : BitVec 6) (s : State) : Outcome :=
  executeUnimplemented s

/-- COP1_group: decode-recognized and untranslated (30_encoding.md R55), so `Invalid [Unimplemented]` (41_translator.md R72). -/
def execCop1 (_rs _rt _rd : RegIdx) (_sa : BitVec 5) (_funct : BitVec 6) (s : State) : Outcome :=
  executeUnimplemented s

/-- COP2_group: decode-recognized and untranslated (30_encoding.md R55), so `Invalid [Unimplemented]` (41_translator.md R72). -/
def execCop2 (_rs _rt _rd : RegIdx) (_sa : BitVec 5) (_funct : BitVec 6) (s : State) : Outcome :=
  executeUnimplemented s

/-- COP1X_group: decode-recognized and untranslated (30_encoding.md R55), so `Invalid [Unimplemented]` (41_translator.md R72). -/
def execCop1x (_rs _rt _rd : RegIdx) (_sa : BitVec 5) (_funct : BitVec 6) (s : State) : Outcome :=
  executeUnimplemented s

/-- SPECIAL2_group: decode-recognized and untranslated (30_encoding.md R55), so `Invalid [Unimplemented]` (41_translator.md R72). -/
def execSpecial2 (_rs _rt _rd : RegIdx) (_sa : BitVec 5) (_funct : BitVec 6) (s : State) : Outcome :=
  executeUnimplemented s

/-- SPECIAL3_group: decode-recognized and untranslated (30_encoding.md R55), so `Invalid [Unimplemented]` (41_translator.md R72). -/
def execSpecial3 (_rs _rt _rd : RegIdx) (_sa : BitVec 5) (_funct : BitVec 6) (s : State) : Outcome :=
  executeUnimplemented s

/-- LWC1: decode-recognized and untranslated (30_encoding.md R55), so `Invalid [Unimplemented]` (41_translator.md R72). -/
def execLwc1 (_rs _rt : RegIdx) (_imm : Imm16) (s : State) : Outcome :=
  executeUnimplemented s

/-- LWC2: decode-recognized and untranslated (30_encoding.md R55), so `Invalid [Unimplemented]` (41_translator.md R72). -/
def execLwc2 (_rs _rt : RegIdx) (_imm : Imm16) (s : State) : Outcome :=
  executeUnimplemented s

/-- LDC1: decode-recognized and untranslated (30_encoding.md R55), so `Invalid [Unimplemented]` (41_translator.md R72). -/
def execLdc1 (_rs _rt : RegIdx) (_imm : Imm16) (s : State) : Outcome :=
  executeUnimplemented s

/-- LDC2: decode-recognized and untranslated (30_encoding.md R55), so `Invalid [Unimplemented]` (41_translator.md R72). -/
def execLdc2 (_rs _rt : RegIdx) (_imm : Imm16) (s : State) : Outcome :=
  executeUnimplemented s

/-- SWC1: decode-recognized and untranslated (30_encoding.md R55), so `Invalid [Unimplemented]` (41_translator.md R72). -/
def execSwc1 (_rs _rt : RegIdx) (_imm : Imm16) (s : State) : Outcome :=
  executeUnimplemented s

/-- SWC2: decode-recognized and untranslated (30_encoding.md R55), so `Invalid [Unimplemented]` (41_translator.md R72). -/
def execSwc2 (_rs _rt : RegIdx) (_imm : Imm16) (s : State) : Outcome :=
  executeUnimplemented s

/-- SDC1: decode-recognized and untranslated (30_encoding.md R55), so `Invalid [Unimplemented]` (41_translator.md R72). -/
def execSdc1 (_rs _rt : RegIdx) (_imm : Imm16) (s : State) : Outcome :=
  executeUnimplemented s

/-- SDC2: decode-recognized and untranslated (30_encoding.md R55), so `Invalid [Unimplemented]` (41_translator.md R72). -/
def execSdc2 (_rs _rt : RegIdx) (_imm : Imm16) (s : State) : Outcome :=
  executeUnimplemented s

end Sys2Proof.Machine
end

