-- ==== Sys2Proof/Machine/ImmediateArith.lean ====
section
/-! DEFINITION. The immediate arithmetic and logic instructions (30_encoding.md R52).
One meaning per instruction. -/

namespace Sys2Proof.Machine

/-- ADDI: no row of the default `OpMap` (41_translator.md R69), so `Invalid [Unimplemented]` (R72). -/
def execAddi (_rs _rt : RegIdx) (_imm : Imm16) (s : State) : Outcome :=
  executeUnimplemented s

/-- ADDIU: `AddImmTrunc32` (42_cell_operations.md R83). -/
def execAddiu (rs rt : RegIdx) (imm : Imm16) (s : State) : Outcome :=
  executeRow specAddiu rt (bindRtRsSimm rs rt imm) s

/-- SLTI: no row of the default `OpMap` (41_translator.md R69), so `Invalid [Unimplemented]` (R72). -/
def execSlti (_rs _rt : RegIdx) (_imm : Imm16) (s : State) : Outcome :=
  executeUnimplemented s

/-- SLTIU: no row of the default `OpMap` (41_translator.md R69), so `Invalid [Unimplemented]` (R72). -/
def execSltiu (_rs _rt : RegIdx) (_imm : Imm16) (s : State) : Outcome :=
  executeUnimplemented s

/-- ANDI: `AndImm` (42_cell_operations.md R87). -/
def execAndi (rs rt : RegIdx) (imm : Imm16) (s : State) : Outcome :=
  executeRow specAndi rt (bindRtRsUimm rs rt imm) s

/-- ORI: `OrImm` (42_cell_operations.md R88). -/
def execOri (rs rt : RegIdx) (imm : Imm16) (s : State) : Outcome :=
  executeRow specOri rt (bindRtRsUimm rs rt imm) s

/-- XORI: `XorImm` (42_cell_operations.md R89). -/
def execXori (rs rt : RegIdx) (imm : Imm16) (s : State) : Outcome :=
  executeRow specXori rt (bindRtRsUimm rs rt imm) s

/-- LUI: `SetImm` (42_cell_operations.md R90); `rs` is ignored. -/
def execLui (_rs rt : RegIdx) (imm : Imm16) (s : State) : Outcome :=
  executeRow specLui rt (bindRtSimmHi rt imm) s

/-- DADDI: no row of the default `OpMap` (41_translator.md R69), so `Invalid [Unimplemented]` (R72). -/
def execDaddi (_rs _rt : RegIdx) (_imm : Imm16) (s : State) : Outcome :=
  executeUnimplemented s

/-- DADDIU: `AddImm64` (42_cell_operations.md R85), for ISA level 3 and up. -/
def execDaddiu (rs rt : RegIdx) (imm : Imm16) (s : State) : Outcome :=
  executeRow specDaddiu rt (bindRtRsSimm rs rt imm) s

end Sys2Proof.Machine
end

