-- ==== Sys2Proof/Machine/LoadStore.lean ====
section
/-! DEFINITION. The loads, stores and atomics (30_encoding.md R52; 20_memory.md R32, R40).
One meaning per instruction. -/

namespace Sys2Proof.Machine

/-- LDL: no row of the default `OpMap` (41_translator.md R69), so `Invalid [Unimplemented]` (R72). -/
def execLdl (_rs _rt : RegIdx) (_imm : Imm16) (s : State) : Outcome :=
  executeUnimplemented s

/-- LDR: no row of the default `OpMap` (41_translator.md R69), so `Invalid [Unimplemented]` (R72). -/
def execLdr (_rs _rt : RegIdx) (_imm : Imm16) (s : State) : Outcome :=
  executeUnimplemented s

/-- LB: no row of the default `OpMap` (41_translator.md R69), so `Invalid [Unimplemented]` (R72). -/
def execLb (_rs _rt : RegIdx) (_imm : Imm16) (s : State) : Outcome :=
  executeUnimplemented s

/-- LH: no row of the default `OpMap` (41_translator.md R69), so `Invalid [Unimplemented]` (R72). -/
def execLh (_rs _rt : RegIdx) (_imm : Imm16) (s : State) : Outcome :=
  executeUnimplemented s

/-- LWL: no row of the default `OpMap` (41_translator.md R69), so `Invalid [Unimplemented]` (R72). -/
def execLwl (_rs _rt : RegIdx) (_imm : Imm16) (s : State) : Outcome :=
  executeUnimplemented s

/-- LW: no row of the default `OpMap` (41_translator.md R69), so `Invalid [Unimplemented]` (R72). -/
def execLw (_rs _rt : RegIdx) (_imm : Imm16) (s : State) : Outcome :=
  executeUnimplemented s

/-- LBU: no row of the default `OpMap` (41_translator.md R69), so `Invalid [Unimplemented]` (R72). -/
def execLbu (_rs _rt : RegIdx) (_imm : Imm16) (s : State) : Outcome :=
  executeUnimplemented s

/-- LHU: no row of the default `OpMap` (41_translator.md R69), so `Invalid [Unimplemented]` (R72). -/
def execLhu (_rs _rt : RegIdx) (_imm : Imm16) (s : State) : Outcome :=
  executeUnimplemented s

/-- LWR: no row of the default `OpMap` (41_translator.md R69), so `Invalid [Unimplemented]` (R72). -/
def execLwr (_rs _rt : RegIdx) (_imm : Imm16) (s : State) : Outcome :=
  executeUnimplemented s

/-- LWU: no row of the default `OpMap` (41_translator.md R69), so `Invalid [Unimplemented]` (R72). -/
def execLwu (_rs _rt : RegIdx) (_imm : Imm16) (s : State) : Outcome :=
  executeUnimplemented s

/-- LD: no row of the default `OpMap` (41_translator.md R69), so `Invalid [Unimplemented]` (R72). -/
def execLd (_rs _rt : RegIdx) (_imm : Imm16) (s : State) : Outcome :=
  executeUnimplemented s

/-- SB: no row of the default `OpMap` (41_translator.md R69), so `Invalid [Unimplemented]` (R72). -/
def execSb (_rs _rt : RegIdx) (_imm : Imm16) (s : State) : Outcome :=
  executeUnimplemented s

/-- SH: no row of the default `OpMap` (41_translator.md R69), so `Invalid [Unimplemented]` (R72). -/
def execSh (_rs _rt : RegIdx) (_imm : Imm16) (s : State) : Outcome :=
  executeUnimplemented s

/-- SWL: no row of the default `OpMap` (41_translator.md R69), so `Invalid [Unimplemented]` (R72). -/
def execSwl (_rs _rt : RegIdx) (_imm : Imm16) (s : State) : Outcome :=
  executeUnimplemented s

/-- SW: no row of the default `OpMap` (41_translator.md R69), so `Invalid [Unimplemented]` (R72). -/
def execSw (_rs _rt : RegIdx) (_imm : Imm16) (s : State) : Outcome :=
  executeUnimplemented s

/-- SDL: no row of the default `OpMap` (41_translator.md R69), so `Invalid [Unimplemented]` (R72). -/
def execSdl (_rs _rt : RegIdx) (_imm : Imm16) (s : State) : Outcome :=
  executeUnimplemented s

/-- SDR: no row of the default `OpMap` (41_translator.md R69), so `Invalid [Unimplemented]` (R72). -/
def execSdr (_rs _rt : RegIdx) (_imm : Imm16) (s : State) : Outcome :=
  executeUnimplemented s

/-- SWR: no row of the default `OpMap` (41_translator.md R69), so `Invalid [Unimplemented]` (R72). -/
def execSwr (_rs _rt : RegIdx) (_imm : Imm16) (s : State) : Outcome :=
  executeUnimplemented s

/-- SD: no row of the default `OpMap` (41_translator.md R69), so `Invalid [Unimplemented]` (R72). -/
def execSd (_rs _rt : RegIdx) (_imm : Imm16) (s : State) : Outcome :=
  executeUnimplemented s

/-- LL: no row of the default `OpMap` (41_translator.md R69), so `Invalid [Unimplemented]` (R72). -/
def execLl (_rs _rt : RegIdx) (_imm : Imm16) (s : State) : Outcome :=
  executeUnimplemented s

/-- LLD: no row of the default `OpMap` (41_translator.md R69), so `Invalid [Unimplemented]` (R72). -/
def execLld (_rs _rt : RegIdx) (_imm : Imm16) (s : State) : Outcome :=
  executeUnimplemented s

/-- SC: no row of the default `OpMap` (41_translator.md R69), so `Invalid [Unimplemented]` (R72). -/
def execSc (_rs _rt : RegIdx) (_imm : Imm16) (s : State) : Outcome :=
  executeUnimplemented s

/-- SCD: no row of the default `OpMap` (41_translator.md R69), so `Invalid [Unimplemented]` (R72). -/
def execScd (_rs _rt : RegIdx) (_imm : Imm16) (s : State) : Outcome :=
  executeUnimplemented s

end Sys2Proof.Machine
end

