-- ==== Sys2Proof/Machine/MultiplyDivide.lean ====
section
/-! DEFINITION. The multiply, divide and HI/LO instructions (30_encoding.md R53; 10_state.md R14).
One meaning per instruction. -/

namespace Sys2Proof.Machine

/-- MFHI: no row of the default `OpMap` (41_translator.md R69), so `Invalid [Unimplemented]` (R72). -/
def execMfhi (_rs _rt _rd : RegIdx) (_sa : BitVec 5) (s : State) : Outcome :=
  executeUnimplemented s

/-- MTHI: no row of the default `OpMap` (41_translator.md R69), so `Invalid [Unimplemented]` (R72). -/
def execMthi (_rs _rt _rd : RegIdx) (_sa : BitVec 5) (s : State) : Outcome :=
  executeUnimplemented s

/-- MFLO: no row of the default `OpMap` (41_translator.md R69), so `Invalid [Unimplemented]` (R72). -/
def execMflo (_rs _rt _rd : RegIdx) (_sa : BitVec 5) (s : State) : Outcome :=
  executeUnimplemented s

/-- MTLO: no row of the default `OpMap` (41_translator.md R69), so `Invalid [Unimplemented]` (R72). -/
def execMtlo (_rs _rt _rd : RegIdx) (_sa : BitVec 5) (s : State) : Outcome :=
  executeUnimplemented s

/-- MULT: no row of the default `OpMap` (41_translator.md R69), so `Invalid [Unimplemented]` (R72). -/
def execMult (_rs _rt _rd : RegIdx) (_sa : BitVec 5) (s : State) : Outcome :=
  executeUnimplemented s

/-- MULTU: no row of the default `OpMap` (41_translator.md R69), so `Invalid [Unimplemented]` (R72). -/
def execMultu (_rs _rt _rd : RegIdx) (_sa : BitVec 5) (s : State) : Outcome :=
  executeUnimplemented s

/-- DIV: no row of the default `OpMap` (41_translator.md R69), so `Invalid [Unimplemented]` (R72). -/
def execDiv (_rs _rt _rd : RegIdx) (_sa : BitVec 5) (s : State) : Outcome :=
  executeUnimplemented s

/-- DIVU: no row of the default `OpMap` (41_translator.md R69), so `Invalid [Unimplemented]` (R72). -/
def execDivu (_rs _rt _rd : RegIdx) (_sa : BitVec 5) (s : State) : Outcome :=
  executeUnimplemented s

/-- DMULT: no row of the default `OpMap` (41_translator.md R69), so `Invalid [Unimplemented]` (R72). -/
def execDmult (_rs _rt _rd : RegIdx) (_sa : BitVec 5) (s : State) : Outcome :=
  executeUnimplemented s

/-- DMULTU: no row of the default `OpMap` (41_translator.md R69), so `Invalid [Unimplemented]` (R72). -/
def execDmultu (_rs _rt _rd : RegIdx) (_sa : BitVec 5) (s : State) : Outcome :=
  executeUnimplemented s

/-- DDIV: no row of the default `OpMap` (41_translator.md R69), so `Invalid [Unimplemented]` (R72). -/
def execDdiv (_rs _rt _rd : RegIdx) (_sa : BitVec 5) (s : State) : Outcome :=
  executeUnimplemented s

/-- DDIVU: no row of the default `OpMap` (41_translator.md R69), so `Invalid [Unimplemented]` (R72). -/
def execDdivu (_rs _rt _rd : RegIdx) (_sa : BitVec 5) (s : State) : Outcome :=
  executeUnimplemented s

end Sys2Proof.Machine
end

