-- ==== Sys2Proof/Machine/RegisterArith.lean ====
section
/-! DEFINITION. The SPECIAL-group arithmetic, logic, shift and conditional-move instructions (30_encoding.md R53), with the
hint forms and the zero-destination form of the translated rows (42_cell_operations.md R82).
One meaning per instruction. -/

namespace Sys2Proof.Machine

/-- SLL: `ShiftLeftImmTrunc32` (42_cell_operations.md R91); `rs` is ignored. -/
def execSll (_rs rt rd : RegIdx) (sa : BitVec 5) (s : State) : Outcome :=
  executeRow specSll rd (bindRdRtSa rt rd sa) s

/-- MOVCI: no row of the default `OpMap` (41_translator.md R69), so `Invalid [Unimplemented]` (R72). -/
def execMovci (_rs _rt _rd : RegIdx) (_sa : BitVec 5) (s : State) : Outcome :=
  executeUnimplemented s

/-- SRL: no row of the default `OpMap` (41_translator.md R69), so `Invalid [Unimplemented]` (R72). -/
def execSrl (_rs _rt _rd : RegIdx) (_sa : BitVec 5) (s : State) : Outcome :=
  executeUnimplemented s

/-- SRA: no row of the default `OpMap` (41_translator.md R69), so `Invalid [Unimplemented]` (R72). -/
def execSra (_rs _rt _rd : RegIdx) (_sa : BitVec 5) (s : State) : Outcome :=
  executeUnimplemented s

/-- SLLV: no row of the default `OpMap` (41_translator.md R69), so `Invalid [Unimplemented]` (R72). -/
def execSllv (_rs _rt _rd : RegIdx) (_sa : BitVec 5) (s : State) : Outcome :=
  executeUnimplemented s

/-- SRLV: no row of the default `OpMap` (41_translator.md R69), so `Invalid [Unimplemented]` (R72). -/
def execSrlv (_rs _rt _rd : RegIdx) (_sa : BitVec 5) (s : State) : Outcome :=
  executeUnimplemented s

/-- SRAV: no row of the default `OpMap` (41_translator.md R69), so `Invalid [Unimplemented]` (R72). -/
def execSrav (_rs _rt _rd : RegIdx) (_sa : BitVec 5) (s : State) : Outcome :=
  executeUnimplemented s

/-- MOVZ: no row of the default `OpMap` (41_translator.md R69), so `Invalid [Unimplemented]` (R72). -/
def execMovz (_rs _rt _rd : RegIdx) (_sa : BitVec 5) (s : State) : Outcome :=
  executeUnimplemented s

/-- MOVN: no row of the default `OpMap` (41_translator.md R69), so `Invalid [Unimplemented]` (R72). -/
def execMovn (_rs _rt _rd : RegIdx) (_sa : BitVec 5) (s : State) : Outcome :=
  executeUnimplemented s

/-- DSLLV: no row of the default `OpMap` (41_translator.md R69), so `Invalid [Unimplemented]` (R72). -/
def execDsllv (_rs _rt _rd : RegIdx) (_sa : BitVec 5) (s : State) : Outcome :=
  executeUnimplemented s

/-- DSRLV: no row of the default `OpMap` (41_translator.md R69), so `Invalid [Unimplemented]` (R72). -/
def execDsrlv (_rs _rt _rd : RegIdx) (_sa : BitVec 5) (s : State) : Outcome :=
  executeUnimplemented s

/-- DSRAV: no row of the default `OpMap` (41_translator.md R69), so `Invalid [Unimplemented]` (R72). -/
def execDsrav (_rs _rt _rd : RegIdx) (_sa : BitVec 5) (s : State) : Outcome :=
  executeUnimplemented s

/-- ADD: no row of the default `OpMap` (41_translator.md R69), so `Invalid [Unimplemented]` (R72). -/
def execAdd (_rs _rt _rd : RegIdx) (_sa : BitVec 5) (s : State) : Outcome :=
  executeUnimplemented s

/-- ADDU: `AddTrunc32` (42_cell_operations.md R84); `sa` is ignored. -/
def execAddu (rs rt rd : RegIdx) (_sa : BitVec 5) (s : State) : Outcome :=
  executeRow specAddu rd (bindRdRsRt rs rt rd) s

/-- SUB: no row of the default `OpMap` (41_translator.md R69), so `Invalid [Unimplemented]` (R72). -/
def execSub (_rs _rt _rd : RegIdx) (_sa : BitVec 5) (s : State) : Outcome :=
  executeUnimplemented s

/-- SUBU: no row of the default `OpMap` (41_translator.md R69), so `Invalid [Unimplemented]` (R72). -/
def execSubu (_rs _rt _rd : RegIdx) (_sa : BitVec 5) (s : State) : Outcome :=
  executeUnimplemented s

/-- AND: no row of the default `OpMap` (41_translator.md R69), so `Invalid [Unimplemented]` (R72). -/
def execAnd (_rs _rt _rd : RegIdx) (_sa : BitVec 5) (s : State) : Outcome :=
  executeUnimplemented s

/-- OR: no row of the default `OpMap` (41_translator.md R69), so `Invalid [Unimplemented]` (R72). -/
def execOr (_rs _rt _rd : RegIdx) (_sa : BitVec 5) (s : State) : Outcome :=
  executeUnimplemented s

/-- XOR: no row of the default `OpMap` (41_translator.md R69), so `Invalid [Unimplemented]` (R72). -/
def execXor (_rs _rt _rd : RegIdx) (_sa : BitVec 5) (s : State) : Outcome :=
  executeUnimplemented s

/-- NOR: no row of the default `OpMap` (41_translator.md R69), so `Invalid [Unimplemented]` (R72). -/
def execNor (_rs _rt _rd : RegIdx) (_sa : BitVec 5) (s : State) : Outcome :=
  executeUnimplemented s

/-- SLT: no row of the default `OpMap` (41_translator.md R69), so `Invalid [Unimplemented]` (R72). -/
def execSlt (_rs _rt _rd : RegIdx) (_sa : BitVec 5) (s : State) : Outcome :=
  executeUnimplemented s

/-- SLTU: no row of the default `OpMap` (41_translator.md R69), so `Invalid [Unimplemented]` (R72). -/
def execSltu (_rs _rt _rd : RegIdx) (_sa : BitVec 5) (s : State) : Outcome :=
  executeUnimplemented s

/-- DADD: no row of the default `OpMap` (41_translator.md R69), so `Invalid [Unimplemented]` (R72). -/
def execDadd (_rs _rt _rd : RegIdx) (_sa : BitVec 5) (s : State) : Outcome :=
  executeUnimplemented s

/-- DADDU: `Add64` (42_cell_operations.md R86), for ISA level 3 and up; `sa` is ignored. -/
def execDaddu (rs rt rd : RegIdx) (_sa : BitVec 5) (s : State) : Outcome :=
  executeRow specDaddu rd (bindRdRsRt rs rt rd) s

/-- DSUB: no row of the default `OpMap` (41_translator.md R69), so `Invalid [Unimplemented]` (R72). -/
def execDsub (_rs _rt _rd : RegIdx) (_sa : BitVec 5) (s : State) : Outcome :=
  executeUnimplemented s

/-- DSUBU: no row of the default `OpMap` (41_translator.md R69), so `Invalid [Unimplemented]` (R72). -/
def execDsubu (_rs _rt _rd : RegIdx) (_sa : BitVec 5) (s : State) : Outcome :=
  executeUnimplemented s

/-- DSLL: no row of the default `OpMap` (41_translator.md R69), so `Invalid [Unimplemented]` (R72). -/
def execDsll (_rs _rt _rd : RegIdx) (_sa : BitVec 5) (s : State) : Outcome :=
  executeUnimplemented s

/-- DSRL: no row of the default `OpMap` (41_translator.md R69), so `Invalid [Unimplemented]` (R72). -/
def execDsrl (_rs _rt _rd : RegIdx) (_sa : BitVec 5) (s : State) : Outcome :=
  executeUnimplemented s

/-- DSRA: no row of the default `OpMap` (41_translator.md R69), so `Invalid [Unimplemented]` (R72). -/
def execDsra (_rs _rt _rd : RegIdx) (_sa : BitVec 5) (s : State) : Outcome :=
  executeUnimplemented s

/-- DSLL32: no row of the default `OpMap` (41_translator.md R69), so `Invalid [Unimplemented]` (R72). -/
def execDsll32 (_rs _rt _rd : RegIdx) (_sa : BitVec 5) (s : State) : Outcome :=
  executeUnimplemented s

/-- DSRL32: no row of the default `OpMap` (41_translator.md R69), so `Invalid [Unimplemented]` (R72). -/
def execDsrl32 (_rs _rt _rd : RegIdx) (_sa : BitVec 5) (s : State) : Outcome :=
  executeUnimplemented s

/-- DSRA32: no row of the default `OpMap` (41_translator.md R69), so `Invalid [Unimplemented]` (R72). -/
def execDsra32 (_rs _rt _rd : RegIdx) (_sa : BitVec 5) (s : State) : Outcome :=
  executeUnimplemented s

/-- NOP, SLL zero,zero,0 (42_cell_operations.md R82). -/
def execNop (s : State) : Outcome :=
  executeRow specSll 0#5 (bindRdRtSa 0#5 0#5 0#5) s

/-- SSNOP, SLL zero,zero,1 (30_encoding.md R58; 42_cell_operations.md R82). -/
def execSsnop (s : State) : Outcome :=
  executeRow specSll 0#5 (bindRdRtSa 0#5 0#5 1#5) s

/-- EHB, SLL zero,zero,3, with no revision requirement (30_encoding.md R58; 42_cell_operations.md R82). -/
def execEhb (s : State) : Outcome :=
  executeRow specSll 0#5 (bindRdRtSa 0#5 0#5 3#5) s

/-- A word of a translated row with destination 0 (41_translator.md R71; 42_cell_operations.md R82): its own translation,
executed. -/
def execZeroDest (word : InstrWord) (s : State) : Outcome :=
  executeCell (translateClass s.desc word (.normal (decodeNormal word s.pc))).1 s

end Sys2Proof.Machine
end

