-- ==== Sys2Proof/Machine/SystemTrap.lean ====
section
/-! DEFINITION. The system, trap, barrier, prefetch and cache instructions (30_encoding.md R52 to R55; 60_exceptions.md R101, R106).
One meaning per instruction. -/

namespace Sys2Proof.Machine

/-- SYSCALL: no row of the default `OpMap` (41_translator.md R69), so `Invalid [Unimplemented]` (R72). -/
def execSyscall (_rs _rt _rd : RegIdx) (_sa : BitVec 5) (s : State) : Outcome :=
  executeUnimplemented s

/-- BREAK: no row of the default `OpMap` (41_translator.md R69), so `Invalid [Unimplemented]` (R72). -/
def execBrk (_rs _rt _rd : RegIdx) (_sa : BitVec 5) (s : State) : Outcome :=
  executeUnimplemented s

/-- SYNC: no row of the default `OpMap` (41_translator.md R69), so `Invalid [Unimplemented]` (R72). -/
def execSync (_rs _rt _rd : RegIdx) (_sa : BitVec 5) (s : State) : Outcome :=
  executeUnimplemented s

/-- TGE: no row of the default `OpMap` (41_translator.md R69), so `Invalid [Unimplemented]` (R72). -/
def execTge (_rs _rt _rd : RegIdx) (_sa : BitVec 5) (s : State) : Outcome :=
  executeUnimplemented s

/-- TGEU: no row of the default `OpMap` (41_translator.md R69), so `Invalid [Unimplemented]` (R72). -/
def execTgeu (_rs _rt _rd : RegIdx) (_sa : BitVec 5) (s : State) : Outcome :=
  executeUnimplemented s

/-- TLT: no row of the default `OpMap` (41_translator.md R69), so `Invalid [Unimplemented]` (R72). -/
def execTlt (_rs _rt _rd : RegIdx) (_sa : BitVec 5) (s : State) : Outcome :=
  executeUnimplemented s

/-- TLTU: no row of the default `OpMap` (41_translator.md R69), so `Invalid [Unimplemented]` (R72). -/
def execTltu (_rs _rt _rd : RegIdx) (_sa : BitVec 5) (s : State) : Outcome :=
  executeUnimplemented s

/-- TEQ: no row of the default `OpMap` (41_translator.md R69), so `Invalid [Unimplemented]` (R72). -/
def execTeq (_rs _rt _rd : RegIdx) (_sa : BitVec 5) (s : State) : Outcome :=
  executeUnimplemented s

/-- TNE: no row of the default `OpMap` (41_translator.md R69), so `Invalid [Unimplemented]` (R72). -/
def execTne (_rs _rt _rd : RegIdx) (_sa : BitVec 5) (s : State) : Outcome :=
  executeUnimplemented s

/-- TGEI: no row of the default `OpMap` (41_translator.md R69), so `Invalid [Unimplemented]` (R72). -/
def execTgei (_rs : RegIdx) (_imm : Imm16) (s : State) : Outcome :=
  executeUnimplemented s

/-- TGEIU: no row of the default `OpMap` (41_translator.md R69), so `Invalid [Unimplemented]` (R72). -/
def execTgeiu (_rs : RegIdx) (_imm : Imm16) (s : State) : Outcome :=
  executeUnimplemented s

/-- TLTI: no row of the default `OpMap` (41_translator.md R69), so `Invalid [Unimplemented]` (R72). -/
def execTlti (_rs : RegIdx) (_imm : Imm16) (s : State) : Outcome :=
  executeUnimplemented s

/-- TLTIU: no row of the default `OpMap` (41_translator.md R69), so `Invalid [Unimplemented]` (R72). -/
def execTltiu (_rs : RegIdx) (_imm : Imm16) (s : State) : Outcome :=
  executeUnimplemented s

/-- TEQI: no row of the default `OpMap` (41_translator.md R69), so `Invalid [Unimplemented]` (R72). -/
def execTeqi (_rs : RegIdx) (_imm : Imm16) (s : State) : Outcome :=
  executeUnimplemented s

/-- TNEI: no row of the default `OpMap` (41_translator.md R69), so `Invalid [Unimplemented]` (R72). -/
def execTnei (_rs : RegIdx) (_imm : Imm16) (s : State) : Outcome :=
  executeUnimplemented s

/-- SYNCI: no row of the default `OpMap` (41_translator.md R69), so `Invalid [Unimplemented]` (R72). -/
def execSynci (_rs : RegIdx) (_imm : Imm16) (s : State) : Outcome :=
  executeUnimplemented s

/-- CACHE: decode-recognized and untranslated (30_encoding.md R55), so `Invalid [Unimplemented]` (41_translator.md R72). -/
def execCache (_rs _rt : RegIdx) (_imm : Imm16) (s : State) : Outcome :=
  executeUnimplemented s

/-- PREF: no row of the default `OpMap` (41_translator.md R69), so `Invalid [Unimplemented]` (R72). -/
def execPref (_rs _rt : RegIdx) (_imm : Imm16) (s : State) : Outcome :=
  executeUnimplemented s

end Sys2Proof.Machine
end

