-- ==== Sys2Proof/Machine/VariantForms.lean ====
section
/-! DEFINITION. The R5900 rows (30_encoding.md R56), the compressed placeholder (41_translator.md R77) and every other word (R72).
One meaning per instruction. -/

namespace Sys2Proof.Machine

/-- MMI_group: no row of the default `OpMap` (41_translator.md R69), so `Invalid [Unimplemented]` (R72). -/
def execMmiR5900 (_rs _rt _rd : RegIdx) (_sa : BitVec 5) (_funct : BitVec 6) (s : State) : Outcome :=
  executeUnimplemented s

/-- LQ: no row of the default `OpMap` (41_translator.md R69), so `Invalid [Unimplemented]` (R72). -/
def execLqR5900 (_rs _rt : RegIdx) (_imm : Imm16) (s : State) : Outcome :=
  executeUnimplemented s

/-- SQ: no row of the default `OpMap` (41_translator.md R69), so `Invalid [Unimplemented]` (R72). -/
def execSqR5900 (_rs _rt : RegIdx) (_imm : Imm16) (s : State) : Outcome :=
  executeUnimplemented s

/-- MFSA: no row of the default `OpMap` (41_translator.md R69), so `Invalid [Unimplemented]` (R72). -/
def execMfsaR5900 (_rs _rt _rd : RegIdx) (_sa : BitVec 5) (s : State) : Outcome :=
  executeUnimplemented s

/-- MTSA: no row of the default `OpMap` (41_translator.md R69), so `Invalid [Unimplemented]` (R72). -/
def execMtsaR5900 (_rs _rt _rd : RegIdx) (_sa : BitVec 5) (s : State) : Outcome :=
  executeUnimplemented s

/-- MTSAB: no row of the default `OpMap` (41_translator.md R69), so `Invalid [Unimplemented]` (R72). -/
def execMtsabR5900 (_rs : RegIdx) (_imm : Imm16) (s : State) : Outcome :=
  executeUnimplemented s

/-- MTSAH: no row of the default `OpMap` (41_translator.md R69), so `Invalid [Unimplemented]` (R72). -/
def execMtsahR5900 (_rs : RegIdx) (_imm : Imm16) (s : State) : Outcome :=
  executeUnimplemented s

/-- The compressed placeholder: `Invalid [Unimplemented]` for every halfword (41_translator.md R77). -/
def execCompressed (_half : Half) (s : State) : Outcome :=
  executeUnimplemented s

/-- A word of no row: `Invalid [Unimplemented]` (41_translator.md R72; 30_encoding.md R57). -/
def execUnrecognized (_word : InstrWord) (s : State) : Outcome :=
  executeUnimplemented s

end Sys2Proof.Machine
end

