-- ==== Sys2Proof/Machine/Dispatch.lean ====
section
/-! DEFINITION. The dispatch: one arm per instruction, in the order of spec/opcode_table.json. `exec` is the effect of the
instruction's cell; the driver's step adds the run start, the translation cache and the advance of `pc`. -/

namespace Sys2Proof.Machine

def exec (i : Instr) (s : State) : Host.Outcome State Fault Refusal :=
  match i with
  | .sll rs rt rd sa => Sys2Proof.Machine.execSll rs rt rd sa s
  | .movci rs rt rd sa => Sys2Proof.Machine.execMovci rs rt rd sa s
  | .srl rs rt rd sa => Sys2Proof.Machine.execSrl rs rt rd sa s
  | .sra rs rt rd sa => Sys2Proof.Machine.execSra rs rt rd sa s
  | .sllv rs rt rd sa => Sys2Proof.Machine.execSllv rs rt rd sa s
  | .srlv rs rt rd sa => Sys2Proof.Machine.execSrlv rs rt rd sa s
  | .srav rs rt rd sa => Sys2Proof.Machine.execSrav rs rt rd sa s
  | .jr rs rt rd sa => Sys2Proof.Machine.execJr rs rt rd sa s
  | .jalr rs rt rd sa => Sys2Proof.Machine.execJalr rs rt rd sa s
  | .movz rs rt rd sa => Sys2Proof.Machine.execMovz rs rt rd sa s
  | .movn rs rt rd sa => Sys2Proof.Machine.execMovn rs rt rd sa s
  | .syscall rs rt rd sa => Sys2Proof.Machine.execSyscall rs rt rd sa s
  | .brk rs rt rd sa => Sys2Proof.Machine.execBrk rs rt rd sa s
  | .sync rs rt rd sa => Sys2Proof.Machine.execSync rs rt rd sa s
  | .mfhi rs rt rd sa => Sys2Proof.Machine.execMfhi rs rt rd sa s
  | .mthi rs rt rd sa => Sys2Proof.Machine.execMthi rs rt rd sa s
  | .mflo rs rt rd sa => Sys2Proof.Machine.execMflo rs rt rd sa s
  | .mtlo rs rt rd sa => Sys2Proof.Machine.execMtlo rs rt rd sa s
  | .dsllv rs rt rd sa => Sys2Proof.Machine.execDsllv rs rt rd sa s
  | .dsrlv rs rt rd sa => Sys2Proof.Machine.execDsrlv rs rt rd sa s
  | .dsrav rs rt rd sa => Sys2Proof.Machine.execDsrav rs rt rd sa s
  | .mult rs rt rd sa => Sys2Proof.Machine.execMult rs rt rd sa s
  | .multu rs rt rd sa => Sys2Proof.Machine.execMultu rs rt rd sa s
  | .div rs rt rd sa => Sys2Proof.Machine.execDiv rs rt rd sa s
  | .divu rs rt rd sa => Sys2Proof.Machine.execDivu rs rt rd sa s
  | .dmult rs rt rd sa => Sys2Proof.Machine.execDmult rs rt rd sa s
  | .dmultu rs rt rd sa => Sys2Proof.Machine.execDmultu rs rt rd sa s
  | .ddiv rs rt rd sa => Sys2Proof.Machine.execDdiv rs rt rd sa s
  | .ddivu rs rt rd sa => Sys2Proof.Machine.execDdivu rs rt rd sa s
  | .add rs rt rd sa => Sys2Proof.Machine.execAdd rs rt rd sa s
  | .addu rs rt rd sa => Sys2Proof.Machine.execAddu rs rt rd sa s
  | .sub rs rt rd sa => Sys2Proof.Machine.execSub rs rt rd sa s
  | .subu rs rt rd sa => Sys2Proof.Machine.execSubu rs rt rd sa s
  | .and rs rt rd sa => Sys2Proof.Machine.execAnd rs rt rd sa s
  | .or rs rt rd sa => Sys2Proof.Machine.execOr rs rt rd sa s
  | .xor rs rt rd sa => Sys2Proof.Machine.execXor rs rt rd sa s
  | .nor rs rt rd sa => Sys2Proof.Machine.execNor rs rt rd sa s
  | .slt rs rt rd sa => Sys2Proof.Machine.execSlt rs rt rd sa s
  | .sltu rs rt rd sa => Sys2Proof.Machine.execSltu rs rt rd sa s
  | .dadd rs rt rd sa => Sys2Proof.Machine.execDadd rs rt rd sa s
  | .daddu rs rt rd sa => Sys2Proof.Machine.execDaddu rs rt rd sa s
  | .dsub rs rt rd sa => Sys2Proof.Machine.execDsub rs rt rd sa s
  | .dsubu rs rt rd sa => Sys2Proof.Machine.execDsubu rs rt rd sa s
  | .tge rs rt rd sa => Sys2Proof.Machine.execTge rs rt rd sa s
  | .tgeu rs rt rd sa => Sys2Proof.Machine.execTgeu rs rt rd sa s
  | .tlt rs rt rd sa => Sys2Proof.Machine.execTlt rs rt rd sa s
  | .tltu rs rt rd sa => Sys2Proof.Machine.execTltu rs rt rd sa s
  | .teq rs rt rd sa => Sys2Proof.Machine.execTeq rs rt rd sa s
  | .tne rs rt rd sa => Sys2Proof.Machine.execTne rs rt rd sa s
  | .dsll rs rt rd sa => Sys2Proof.Machine.execDsll rs rt rd sa s
  | .dsrl rs rt rd sa => Sys2Proof.Machine.execDsrl rs rt rd sa s
  | .dsra rs rt rd sa => Sys2Proof.Machine.execDsra rs rt rd sa s
  | .dsll32 rs rt rd sa => Sys2Proof.Machine.execDsll32 rs rt rd sa s
  | .dsrl32 rs rt rd sa => Sys2Proof.Machine.execDsrl32 rs rt rd sa s
  | .dsra32 rs rt rd sa => Sys2Proof.Machine.execDsra32 rs rt rd sa s
  | .bltz rs imm => Sys2Proof.Machine.execBltz rs imm s
  | .bgez rs imm => Sys2Proof.Machine.execBgez rs imm s
  | .bltzl rs imm => Sys2Proof.Machine.execBltzl rs imm s
  | .bgezl rs imm => Sys2Proof.Machine.execBgezl rs imm s
  | .tgei rs imm => Sys2Proof.Machine.execTgei rs imm s
  | .tgeiu rs imm => Sys2Proof.Machine.execTgeiu rs imm s
  | .tlti rs imm => Sys2Proof.Machine.execTlti rs imm s
  | .tltiu rs imm => Sys2Proof.Machine.execTltiu rs imm s
  | .teqi rs imm => Sys2Proof.Machine.execTeqi rs imm s
  | .tnei rs imm => Sys2Proof.Machine.execTnei rs imm s
  | .bltzal rs imm => Sys2Proof.Machine.execBltzal rs imm s
  | .bgezal rs imm => Sys2Proof.Machine.execBgezal rs imm s
  | .bltzall rs imm => Sys2Proof.Machine.execBltzall rs imm s
  | .bgezall rs imm => Sys2Proof.Machine.execBgezall rs imm s
  | .synci rs imm => Sys2Proof.Machine.execSynci rs imm s
  | .j target => Sys2Proof.Machine.execJ target s
  | .jal target => Sys2Proof.Machine.execJal target s
  | .beq rs rt imm => Sys2Proof.Machine.execBeq rs rt imm s
  | .bne rs rt imm => Sys2Proof.Machine.execBne rs rt imm s
  | .blez rs rt imm => Sys2Proof.Machine.execBlez rs rt imm s
  | .bgtz rs rt imm => Sys2Proof.Machine.execBgtz rs rt imm s
  | .addi rs rt imm => Sys2Proof.Machine.execAddi rs rt imm s
  | .addiu rs rt imm => Sys2Proof.Machine.execAddiu rs rt imm s
  | .slti rs rt imm => Sys2Proof.Machine.execSlti rs rt imm s
  | .sltiu rs rt imm => Sys2Proof.Machine.execSltiu rs rt imm s
  | .andi rs rt imm => Sys2Proof.Machine.execAndi rs rt imm s
  | .ori rs rt imm => Sys2Proof.Machine.execOri rs rt imm s
  | .xori rs rt imm => Sys2Proof.Machine.execXori rs rt imm s
  | .lui rs rt imm => Sys2Proof.Machine.execLui rs rt imm s
  | .cop0 rs rt rd sa funct => Sys2Proof.Machine.execCop0 rs rt rd sa funct s
  | .cop1 rs rt rd sa funct => Sys2Proof.Machine.execCop1 rs rt rd sa funct s
  | .cop2 rs rt rd sa funct => Sys2Proof.Machine.execCop2 rs rt rd sa funct s
  | .cop1x rs rt rd sa funct => Sys2Proof.Machine.execCop1x rs rt rd sa funct s
  | .beql rs rt imm => Sys2Proof.Machine.execBeql rs rt imm s
  | .bnel rs rt imm => Sys2Proof.Machine.execBnel rs rt imm s
  | .blezl rs rt imm => Sys2Proof.Machine.execBlezl rs rt imm s
  | .bgtzl rs rt imm => Sys2Proof.Machine.execBgtzl rs rt imm s
  | .daddi rs rt imm => Sys2Proof.Machine.execDaddi rs rt imm s
  | .daddiu rs rt imm => Sys2Proof.Machine.execDaddiu rs rt imm s
  | .ldl rs rt imm => Sys2Proof.Machine.execLdl rs rt imm s
  | .ldr rs rt imm => Sys2Proof.Machine.execLdr rs rt imm s
  | .special2 rs rt rd sa funct => Sys2Proof.Machine.execSpecial2 rs rt rd sa funct s
  | .jalx target => Sys2Proof.Machine.execJalx target s
  | .special3 rs rt rd sa funct => Sys2Proof.Machine.execSpecial3 rs rt rd sa funct s
  | .lb rs rt imm => Sys2Proof.Machine.execLb rs rt imm s
  | .lh rs rt imm => Sys2Proof.Machine.execLh rs rt imm s
  | .lwl rs rt imm => Sys2Proof.Machine.execLwl rs rt imm s
  | .lw rs rt imm => Sys2Proof.Machine.execLw rs rt imm s
  | .lbu rs rt imm => Sys2Proof.Machine.execLbu rs rt imm s
  | .lhu rs rt imm => Sys2Proof.Machine.execLhu rs rt imm s
  | .lwr rs rt imm => Sys2Proof.Machine.execLwr rs rt imm s
  | .lwu rs rt imm => Sys2Proof.Machine.execLwu rs rt imm s
  | .sb rs rt imm => Sys2Proof.Machine.execSb rs rt imm s
  | .sh rs rt imm => Sys2Proof.Machine.execSh rs rt imm s
  | .swl rs rt imm => Sys2Proof.Machine.execSwl rs rt imm s
  | .sw rs rt imm => Sys2Proof.Machine.execSw rs rt imm s
  | .sdl rs rt imm => Sys2Proof.Machine.execSdl rs rt imm s
  | .sdr rs rt imm => Sys2Proof.Machine.execSdr rs rt imm s
  | .swr rs rt imm => Sys2Proof.Machine.execSwr rs rt imm s
  | .cache rs rt imm => Sys2Proof.Machine.execCache rs rt imm s
  | .ll rs rt imm => Sys2Proof.Machine.execLl rs rt imm s
  | .lwc1 rs rt imm => Sys2Proof.Machine.execLwc1 rs rt imm s
  | .lwc2 rs rt imm => Sys2Proof.Machine.execLwc2 rs rt imm s
  | .pref rs rt imm => Sys2Proof.Machine.execPref rs rt imm s
  | .lld rs rt imm => Sys2Proof.Machine.execLld rs rt imm s
  | .ldc1 rs rt imm => Sys2Proof.Machine.execLdc1 rs rt imm s
  | .ldc2 rs rt imm => Sys2Proof.Machine.execLdc2 rs rt imm s
  | .ld rs rt imm => Sys2Proof.Machine.execLd rs rt imm s
  | .sc rs rt imm => Sys2Proof.Machine.execSc rs rt imm s
  | .swc1 rs rt imm => Sys2Proof.Machine.execSwc1 rs rt imm s
  | .swc2 rs rt imm => Sys2Proof.Machine.execSwc2 rs rt imm s
  | .scd rs rt imm => Sys2Proof.Machine.execScd rs rt imm s
  | .sdc1 rs rt imm => Sys2Proof.Machine.execSdc1 rs rt imm s
  | .sdc2 rs rt imm => Sys2Proof.Machine.execSdc2 rs rt imm s
  | .sd rs rt imm => Sys2Proof.Machine.execSd rs rt imm s
  | .mmiR5900 rs rt rd sa funct => Sys2Proof.Machine.execMmiR5900 rs rt rd sa funct s
  | .lqR5900 rs rt imm => Sys2Proof.Machine.execLqR5900 rs rt imm s
  | .sqR5900 rs rt imm => Sys2Proof.Machine.execSqR5900 rs rt imm s
  | .mfsaR5900 rs rt rd sa => Sys2Proof.Machine.execMfsaR5900 rs rt rd sa s
  | .mtsaR5900 rs rt rd sa => Sys2Proof.Machine.execMtsaR5900 rs rt rd sa s
  | .mtsabR5900 rs imm => Sys2Proof.Machine.execMtsabR5900 rs imm s
  | .mtsahR5900 rs imm => Sys2Proof.Machine.execMtsahR5900 rs imm s
  | .nop => Sys2Proof.Machine.execNop s
  | .ssnop => Sys2Proof.Machine.execSsnop s
  | .ehb => Sys2Proof.Machine.execEhb s
  | .zeroDest word => Sys2Proof.Machine.execZeroDest word s
  | .b imm => Sys2Proof.Machine.execB imm s
  | .compressed half => Sys2Proof.Machine.execCompressed half s
  | .unrecognized word => Sys2Proof.Machine.execUnrecognized word s

end Sys2Proof.Machine
end

