-- ==== Sys2Proof/Machine/Driver.lean ====
section
/-! DEFINITION. The driver's protocol (41_translator.md R78), with the pre-run check at the start of a run
(60_exceptions.md R96), and the placing of an instruction where the next step fetches it. -/

namespace Sys2Proof.Machine

/-- Execute what stands at `pc`, then advance `pc` (42_cell_operations.md R93). -/
def andAdvance (o : Outcome) : Outcome := andThen o (fun s => .next s.advancePc)

/-- The miss of the driver's step (41_translator.md R78, R79), with the fetched word: translate, hand the diagnostics to the
sink, fill the cache, and execute the instruction. -/
def stepMiss (s : State) (word : InstrWord) : Outcome :=
  let translation := translateWord s.desc word s.pc
  andAdvance (exec (decodeInstr s.desc.variant word s.pc)
    ((s.emit translation.2).fill s.pc ⟨word, translation.1⟩))

/-- One step of the driver at `pc` (41_translator.md R78). On a hit the stored cell runs, without a fetch, a decode or a
diagnostic. -/
def driverStep (s : State) : Outcome :=
  match s.lookup s.pc with
  | some e => andAdvance (executeCell e.cell s)
  | none =>
    match fetchWord s.mem s.endian s.pc with
    | some word => stepMiss s word
    | none => .fault (.fetchUnavailable s.pc)

/-- One step of the machine: the run's start check where no run is active, then the driver's step. -/
def runStep (s : State) : Outcome := andThen (ensureRun s) driverStep

/-- The `pc` value at which an instruction of so many bits is fetched: bit 0 selects the grammar (30_encoding.md R43). -/
def fetchKey (nbits : Nat) (pc : Word) : Word :=
  if nbits = 16 then pc ||| 1#64 else pcaddr pc

/-- An instruction's bytes stored where the next step fetches: at the numeric address of `pc`, with bit 0 of `pc` for its
grammar, and no cached cell at that key, so that the step fetches (log 6). -/
def placeWord (s : State) (nbits w : Nat) : State :=
  let key := fetchKey nbits s.pc
  let bytes := if nbits = 16 then layoutHalf s.endian (BitVec.ofNat 32 w) else layoutWord s.endian (BitVec.ofNat 32 w)
  { s with pc := key, cache := assocErase s.cache key.toNat, mem := s.mem.writeBytes (pcaddr key) bytes }

end Sys2Proof.Machine
end

