-- ==== Sys2Proof/Machine/Step.lean ====
section
/-! DEFINITION. The step of the machine, and the placing of an instruction where the next step fetches it. -/

namespace Sys2Proof.Machine

/-- One step: the driver's step of 41_translator.md R78, preceded by the pre-run check of 60_exceptions.md R96 where no run is
active. -/
def step (s : State) : Host.Outcome State Fault Refusal := runStep s

/-- The instruction whose bits are `w` stored where the next step fetches (log 6). -/
def State.withFetchWord (s : State) (nbits w : Nat) : State := placeWord s nbits w

end Sys2Proof.Machine
end

