-- ==== Sys2Proof/Machine/AddressTranslator.lean ====
section
/-! DEFINITION. The adjacent Address Translator (20_memory.md R33 to R37): two fixed segments and nothing else. -/

namespace Sys2Proof.Machine

/-- The address before matching: sign-extended from 32 bits in 32-bit mode (20_memory.md R33). -/
def effectiveAddress (bw : BitWidth) (va : Word) : Word :=
  match bw with
  | .w32 => truncSext32 va
  | .w64 => va

/-- `translateAddress(va)` at a bit width: the physical address and whether it is writable, or a miss (20_memory.md R33 to
R36). The first segment is checked first. -/
def translateAddressAt (bw : BitWidth) (va : Word) : Option (Word × Bool) :=
  let a := effectiveAddress bw va
  if 0xFFFFFFFF80000000#64 ≤ a ∧ a < 0xFFFFFFFFC0000000#64 then some (a &&& 0x1FFFFFFF#64, true)
  else if 0xA800000000000000#64 ≤ a ∧ a ≤ 0xA8000FFFFFFFFFFF#64 then some (a &&& 0x0FFFFFFFFFFF#64, true)
  else none

/-- The instance's translation: its own bit width is supplied (20_memory.md R33; 90_conflicts.md C5). -/
def translateAddress (s : State) (va : Word) : Option (Word × Bool) :=
  translateAddressAt (bitWidth s.desc) va

end Sys2Proof.Machine
end

