-- ==== Sys2Proof/Machine/Construct.lean ====
section
/-! DEFINITION. Construction of an instance (10_state.md R10; 60_exceptions.md R95; 70_reset_and_hazards.md R109). -/

namespace Sys2Proof.Machine

/-- Why an instance does not come into existence (60_exceptions.md R94, R95). -/
inductive ConstructionError where
  | fatalConstruction (name : String)
  deriving DecidableEq, Repr

/-- The lookup by exact name over the ordered catalog (10_state.md R10). DESIGN CHOICE (log 24): of two records of one name the
first is taken, and the empty name is no model's. -/
def lookupModel (catalog : List Descriptor) (name : String) : Option Descriptor :=
  if name = "" then none else catalog.find? (fun d => d.name == name)

/-- Construction from a catalog, its default model, an optional name and the instance's byte order (70_reset_and_hazards.md
R109). -/
def construct (catalog : List Descriptor) (defaultModel : String) (name : Option String) (e : Endian) :
    Except ConstructionError State :=
  let wanted := name.getD defaultModel
  match lookupModel catalog wanted with
  | some d => .ok (State.fresh d e)
  | none => .error (.fatalConstruction wanted)

/-- Construction from the hardware's own catalog and default model, both OPEN (00_scope.md R5). -/
def constructHere (name : Option String) (e : Endian) : Except ConstructionError State :=
  construct Config.catalog Config.defaultModel name e

end Sys2Proof.Machine
end

