-- ==== Sys2Proof/Machine/Registry.lean ====
section
/-! DEFINITION. The named-variable registry at its interface (10_state.md R27) and the display names of the registers
(30_encoding.md R51). -/

namespace Sys2Proof.Machine

/-- The settable named values of the registry (10_state.md R27). The model name is apart: see `setModelName`. -/
inductive RegName where
  | pc
  | hi
  | lo
  | gpr (i : RegIdx)
  deriving DecidableEq, Repr

/-- The display name of a general register: the default `GprNames` (30_encoding.md R51; PRESUMED by the spec but for `sp`). The
spelling of registers 0 and 30 is not assumed. -/
def gprName (i : RegIdx) : String :=
  match i.toNat with
  | 0 => Config.gprName0
  | 30 => Config.gprName30
  | n => (["", "at", "v0", "v1", "a0", "a1", "a2", "a3", "t0", "t1", "t2", "t3", "t4", "t5", "t6", "t7",
           "s0", "s1", "s2", "s3", "s4", "s5", "s6", "s7", "t8", "t9", "k0", "k1", "gp", "sp", "", "ra"][n]?).getD ""

/-- The name a register is exposed under (10_state.md R27). -/
def RegName.display : RegName → String
  | .pc => "pc"
  | .hi => "hi"
  | .lo => "lo"
  | .gpr i => gprName i

/-- Inspect a named value: the registry mirrors the Register File (10_state.md R27). -/
def registryGet (s : State) : RegName → Word
  | .pc => s.pc
  | .hi => s.hi
  | .lo => s.lo
  | .gpr i => s.readGpr i

/-- The write of a registry set to the Register File (10_state.md R27). -/
def registryWrite (s : State) (r : RegName) (v : Word) : State :=
  match r with
  | .pc => { s with pc := v }
  | .hi => { s with hi := v }
  | .lo => { s with lo := v }
  | .gpr i => s.writeGpr i v

/-- Set a named value: an external write to the Register File, which may make `x[0] ≠ 0` (10_state.md R27) between runs
(70_reset_and_hazards.md R113). So an active run is over, and the next one starts with its check (DESIGN CHOICE,
log 33: the spec does not say what becomes of a run in which a set is asked for). -/
def registrySet (s : State) (r : RegName) (v : Word) : State :=
  (registryWrite s r v).endRun

/-- Inspect the model name (10_state.md R27). -/
def registryModelName (s : State) : String := s.desc.name

/-- A set of the model name after construction is refused: it has no move (10_state.md R27; 90_conflicts.md C4). -/
def setModelName (_s : State) (name : String) : Outcome := .refused (.modelNameFixed name)

end Sys2Proof.Machine
end

