-- ==== Sys2Proof/Machine/Disassembler.lean ====
section
/-! DEFINITION. The Disassembler, as far as the rules fix it (30_encoding.md R55, R60, R61; 60_exceptions.md R99). It is outside
the block (00_scope.md R4) and touches no state; what the rules do not fix is `notGiven` (log 30). -/

namespace Sys2Proof.Machine

/-- An operand of a disassembled line (30_encoding.md R60). -/
inductive Token where
  | reg (i : RegIdx)
  | dec (v : Int)
  | hex (v : Nat)
  | memory (offset : Int) (base : RegIdx)
  | target (a : Word)
  deriving DecidableEq, Repr

/-- The body of a disassembled line: mnemonic and operands, a TODO placeholder naming the attempted mnemonic or field
(30_encoding.md R55), or a form the rules give no operands for. -/
inductive DisasmBody where
  | text (mnemonic : String) (operands : List Token)
  | placeholder (name : String)
  | notGiven
  deriving DecidableEq, Repr

/-- A disassembled line: the hex token, the body, and the consumed length. -/
structure Disassembly where
  hexToken : String
  body     : DisasmBody
  consumed : Nat
  deriving DecidableEq, Repr

/-- Arithmetic immediates: destination first, the immediate in signed decimal (30_encoding.md R60). -/
def arithText (mnemonic : String) (rs rt : RegIdx) (imm : Imm16) : DisasmBody :=
  .text mnemonic [.reg rt, .reg rs, .dec imm.toInt]

/-- Logical immediates: the immediate in unsigned hexadecimal (30_encoding.md R60). -/
def logicText (mnemonic : String) (rs rt : RegIdx) (imm : Imm16) : DisasmBody :=
  .text mnemonic [.reg rt, .reg rs, .hex imm.toNat]

/-- Memory operands: `imm(base)` with a signed decimal offset (30_encoding.md R60). DESIGN CHOICE (log 30): a store
has no destination register, so "destination first" does not settle its order; `rt` stands first, as for a load. -/
def memoryText (mnemonic : String) (rs rt : RegIdx) (imm : Imm16) : DisasmBody :=
  .text mnemonic [.reg rt, .memory imm.toInt rs]

/-- The body of an instruction fetched at `vaddr`. DESIGN CHOICE (log 30): a compressed halfword is rendered as a
placeholder, as it is decoded (30_encoding.md R59), under a name that is not given (91_not_in_source.md N19) and has
no body here. DESIGN CHOICE (log 30): the placeholder of a group names "the attempted mnemonic/field" (N19), which the
model spells as the opcode map's name in lower case, a group without the word "group" and primary 19 as "cop1x". -/
def disasmBody (vaddr : Word) (i : Instr) : DisasmBody :=
  match i with
  | .addi rs rt imm => arithText "addi" rs rt imm
  | .addiu rs rt imm => arithText "addiu" rs rt imm
  | .daddiu rs rt imm => arithText "daddiu" rs rt imm
  | .andi rs rt imm => logicText "andi" rs rt imm
  | .ori rs rt imm => logicText "ori" rs rt imm
  | .xori rs rt imm => logicText "xori" rs rt imm
  | .lui _ rt imm => .text "lui" [.reg rt, .hex imm.toNat]
  | .lb rs rt imm => memoryText "lb" rs rt imm
  | .lh rs rt imm => memoryText "lh" rs rt imm
  | .lwl rs rt imm => memoryText "lwl" rs rt imm
  | .lw rs rt imm => memoryText "lw" rs rt imm
  | .lbu rs rt imm => memoryText "lbu" rs rt imm
  | .lhu rs rt imm => memoryText "lhu" rs rt imm
  | .lwr rs rt imm => memoryText "lwr" rs rt imm
  | .lwu rs rt imm => memoryText "lwu" rs rt imm
  | .ldl rs rt imm => memoryText "ldl" rs rt imm
  | .ldr rs rt imm => memoryText "ldr" rs rt imm
  | .ld rs rt imm => memoryText "ld" rs rt imm
  | .ll rs rt imm => memoryText "ll" rs rt imm
  | .lld rs rt imm => memoryText "lld" rs rt imm
  | .sb rs rt imm => memoryText "sb" rs rt imm
  | .sh rs rt imm => memoryText "sh" rs rt imm
  | .swl rs rt imm => memoryText "swl" rs rt imm
  | .sw rs rt imm => memoryText "sw" rs rt imm
  | .sdl rs rt imm => memoryText "sdl" rs rt imm
  | .sdr rs rt imm => memoryText "sdr" rs rt imm
  | .swr rs rt imm => memoryText "swr" rs rt imm
  | .sd rs rt imm => memoryText "sd" rs rt imm
  | .sc rs rt imm => memoryText "sc" rs rt imm
  | .scd rs rt imm => memoryText "scd" rs rt imm
  | .b imm => .text "b" [.target (branchTarget vaddr imm)]
  | .j t => .text "j" [.target (jumpTarget vaddr t)]
  | .jal t => .text "jal" [.target (jumpTarget vaddr t)]
  | .daddi _ _ _ => .placeholder "daddi"
  | .slti _ _ _ => .placeholder "slti"
  | .sltiu _ _ _ => .placeholder "sltiu"
  | .cop0 _ _ _ _ _ => .placeholder "cop0"
  | .cop1 _ _ _ _ _ => .placeholder "cop1"
  | .cop2 _ _ _ _ _ => .placeholder "cop2"
  | .cop1x _ _ _ _ _ => .placeholder "cop1x"
  | .special2 _ _ _ _ _ => .placeholder "special2"
  | .special3 _ _ _ _ _ => .placeholder "special3"
  | .cache _ _ _ => .placeholder "cache"
  | .lwc1 _ _ _ => .placeholder "lwc1"
  | .lwc2 _ _ _ => .placeholder "lwc2"
  | .ldc1 _ _ _ => .placeholder "ldc1"
  | .ldc2 _ _ _ => .placeholder "ldc2"
  | .swc1 _ _ _ => .placeholder "swc1"
  | .swc2 _ _ _ => .placeholder "swc2"
  | .sdc1 _ _ _ => .placeholder "sdc1"
  | .sdc2 _ _ _ => .placeholder "sdc2"
  | .compressed _ => .placeholder Config.compressedName
  | .sll _ _ _ _ | .movci _ _ _ _ | .srl _ _ _ _ | .sra _ _ _ _ | .sllv _ _ _ _ | .srlv _ _ _ _ | .srav _ _ _ _
  | .jr _ _ _ _ | .jalr _ _ _ _ | .movz _ _ _ _ | .movn _ _ _ _ | .syscall _ _ _ _ | .brk _ _ _ _ | .sync _ _ _ _
  | .mfhi _ _ _ _ | .mthi _ _ _ _ | .mflo _ _ _ _ | .mtlo _ _ _ _ | .dsllv _ _ _ _ | .dsrlv _ _ _ _ | .dsrav _ _ _ _
  | .mult _ _ _ _ | .multu _ _ _ _ | .div _ _ _ _ | .divu _ _ _ _ | .dmult _ _ _ _ | .dmultu _ _ _ _ | .ddiv _ _ _ _
  | .ddivu _ _ _ _ | .add _ _ _ _ | .addu _ _ _ _ | .sub _ _ _ _ | .subu _ _ _ _ | .and _ _ _ _ | .or _ _ _ _
  | .xor _ _ _ _ | .nor _ _ _ _ | .slt _ _ _ _ | .sltu _ _ _ _ | .dadd _ _ _ _ | .daddu _ _ _ _ | .dsub _ _ _ _
  | .dsubu _ _ _ _ | .tge _ _ _ _ | .tgeu _ _ _ _ | .tlt _ _ _ _ | .tltu _ _ _ _ | .teq _ _ _ _ | .tne _ _ _ _
  | .dsll _ _ _ _ | .dsrl _ _ _ _ | .dsra _ _ _ _ | .dsll32 _ _ _ _ | .dsrl32 _ _ _ _ | .dsra32 _ _ _ _ | .bltz _ _
  | .bgez _ _ | .bltzl _ _ | .bgezl _ _ | .tgei _ _ | .tgeiu _ _ | .tlti _ _ | .tltiu _ _ | .teqi _ _ | .tnei _ _
  | .bltzal _ _ | .bgezal _ _ | .bltzall _ _ | .bgezall _ _ | .synci _ _ | .beq _ _ _ | .bne _ _ _ | .blez _ _ _
  | .bgtz _ _ _ | .beql _ _ _ | .bnel _ _ _ | .blezl _ _ _ | .bgtzl _ _ _ | .jalx _ | .pref _ _ _
  | .mmiR5900 _ _ _ _ _ | .lqR5900 _ _ _ | .sqR5900 _ _ _ | .mfsaR5900 _ _ _ _ | .mtsaR5900 _ _ _ _ | .mtsabR5900 _ _
  | .mtsahR5900 _ _ | .nop | .ssnop | .ehb | .zeroDest _ | .unrecognized _ => .notGiven

/-- One lowercase hexadecimal digit. -/
def hexDigit (n : Nat) : String :=
  (["0", "1", "2", "3", "4", "5", "6", "7", "8", "9", "a", "b", "c", "d", "e", "f"][n % 16]?).getD ""

/-- The hex token: lowercase, zero-padded, 8 digits, or 4 in compressed mode (91_not_in_source.md N8;
95_test_vectors.md W5). -/
def hexToken (digits : Nat) (w : InstrWord) : String :=
  String.join ((List.range digits).map (fun i => hexDigit (w.toNat >>> (4 * (digits - 1 - i)))))

/-- Disassemble the bytes at `vaddr`. DESIGN CHOICE (log 30): on a little-endian instance, of which the spec has no
example (W5 is big-endian), the hex token is the digits of the assembled word and not of the bytes in address order.
Fewer bytes than the encoding requires is a contract violation of the caller (60_exceptions.md R99). -/
def disassemble (v : Variant) (e : Endian) (vaddr : Word) (bytes : List Byte) : Except DecodeReject Disassembly :=
  match decodeBytes v e vaddr bytes with
  | .ok (i, _) => .ok ⟨hexToken (2 * consumedLength vaddr) (encode i), disasmBody vaddr i, consumedLength vaddr⟩
  | .error r => .error r

/-- The text of an operand (30_encoding.md R60). The digits of a hexadecimal immediate are not given (N8), nor is the
number format of a target; both are constants without a body (log 30). -/
def Token.text : Token → String
  | .reg i => gprName i
  | .dec v => toString v
  | .hex v => "0x" ++ Config.hexText v
  | .memory offset base => toString offset ++ "(" ++ gprName base ++ ")"
  | .target a => Config.targetText a.toNat

/-- The operand string: operands separated by commas, without spaces (30_encoding.md R60). -/
def operandString (operands : List Token) : String :=
  String.intercalate "," (operands.map Token.text)

end Sys2Proof.Machine
end

