-- ==== Sys2Proof/Machine/Transactions.lean ====
section
/-! DEFINITION. The transactions the outside can issue, one at a time and each atomic (20_memory.md R38; 70_reset_and_hazards.md
R110, R117). -/

namespace Sys2Proof.Machine

/-- Reset (70_reset_and_hazards.md R110; 10_state.md R26): the Register File zeroed and the cache cleared. The descriptor, byte
order and page size stay, emitted diagnostics are not withdrawn, and no run is active (log 7). The external memory
is not the block's and stays. -/
def processorReset (s : State) : State :=
  { s with gpr := Vector.replicate 32 0#64, hi := 0#64, lo := 0#64, pc := 0#64, cache := [], running := false }

/-- What the outside can do to the machine. -/
inductive Transaction where
  /-- The driver's step (41_translator.md R78). -/
  | driverStep
  /-- The start of a run, with its check (60_exceptions.md R96). -/
  | startRun
  /-- The scheduler's call ends (log 7). -/
  | endRun
  /-- Reset (70_reset_and_hazards.md R110). -/
  | reset
  /-- `invalidate` of a range (20_memory.md R41). -/
  | invalidateRange (lo hi : Int)
  /-- `invalidate` of an address (20_memory.md R41). -/
  | invalidateAddress (a : Int)
  /-- A registry set, between runs (10_state.md R27; 70_reset_and_hazards.md R113; log 33). -/
  | registrySet (r : RegName) (v : Word)
  /-- A set of the model name, refused (10_state.md R27). -/
  | setModelName (name : String)
  /-- Bytes written to the external memory: no cached cell changes (20_memory.md R42; 70_reset_and_hazards.md R112). -/
  | externalWrite (addr : Word) (bytes : List Byte)
  deriving DecidableEq, Repr

/-- Perform one transaction. -/
def perform (t : Transaction) (s : State) : Outcome :=
  match t with
  | .driverStep => step s
  | .startRun => startRun s
  | .endRun => .next s.endRun
  | .reset => .next (processorReset s)
  | .invalidateRange lo hi => .next (s.invalidateRange lo hi)
  | .invalidateAddress a => .next (s.invalidateAddress a)
  | .registrySet r v => .next (registrySet s r v)
  | .setModelName name => setModelName s name
  | .externalWrite addr bytes => .next { s with mem := s.mem.writeBytes addr bytes }

/-- The state the machine is left in by an outcome at `s`. A condition is reported to the caller, and a new run or a reset may
follow (60_exceptions.md R100, R104). DESIGN CHOICE (log 7): the spec is silent on what a fetch that cannot supply the
word leaves (70_reset_and_hazards.md R111 (4) presumes that it can); as every fault it ends the run, and it changes
nothing else. -/
def stateAfter (s : State) : Outcome → State
  | .next t => t
  | .fault (.unimplementedInstruction _ _ after) => after
  | .fault (.fetchUnavailable _) => s.endRun
  | .fault (.malformedCell _) => s.endRun
  | .refused (.preRunRefused after) => after
  | .refused _ => s

/-- Transactions in the driver's order, each seeing every effect of the earlier ones (20_memory.md R38). -/
def performAll : List Transaction → State → State
  | [], s => s
  | t :: rest, s => performAll rest (stateAfter s (perform t s))

end Sys2Proof.Machine
end

