-- ==== Sys2Proof/Machine/Instances.lean ====
section
/-! DEFINITION. Several processor instances: the product of independent machines (60_exceptions.md R107). -/

namespace Sys2Proof.Machine

/-- One transaction on instance `k` of several; the others are not touched. There is none where `k` names no instance. -/
def performOn (k : Nat) (t : Transaction) (instances : List State) : Option (List State) :=
  match instances[k]? with
  | some s => some (instances.set k (stateAfter s (perform t s)))
  | none => none

end Sys2Proof.Machine
end

