-- ==== Sys2Proof/Safety.lean ====
section
/-! DEFINITION. What a good state is, in the terms the statements use. -/

namespace Sys2Proof.Machine

/-- The cache keeps its canonical form: keys strictly rise and are 64-bit (10_state.md R22). -/
abbrev State.cacheWf (s : State) : Prop :=
  keysRise s.cache ∧ ∀ p ∈ s.cache, p.1 < 2 ^ 64

/-- Every cached cell is the translation of its own word at its key on this processor (10_state.md R23; 41_translator.md R79;
70_reset_and_hazards.md R114). It says nothing of the bytes now in memory (R112). -/
abbrev State.cacheCoherent (s : State) : Prop :=
  ∀ p ∈ s.cache, p.2.cell = (translateWord s.desc p.2.word (BitVec.ofNat 64 p.1)).1

/-- Inside a run `x[0]` is 0 (70_reset_and_hazards.md R113). -/
abbrev State.zeroInRun (s : State) : Prop :=
  s.running = true → s.readGpr 0#5 = 0#64

/-- The invariant of the machine. -/
abbrev State.Inv (s : State) : Prop :=
  s.mem.wf ∧ s.cacheWf ∧ s.cacheCoherent ∧ s.zeroInRun ∧ s.pageSize = 4096

/-- A run is active or can start here (60_exceptions.md R96). -/
abbrev State.ready (s : State) : Prop := s.running = true ∨ s.readGpr 0#5 = 0#64

/-- The state with its run started. -/
def State.started (s : State) : State := { s with running := true }

/-- Nothing but the general registers differs between two states. -/
structure OnlyGprsDiffer (s t : State) : Prop where
  desc     : t.desc = s.desc
  hi       : t.hi = s.hi
  lo       : t.lo = s.lo
  pc       : t.pc = s.pc
  pageSize : t.pageSize = s.pageSize
  endian   : t.endian = s.endian
  cache    : t.cache = s.cache
  sink     : t.sink = s.sink
  running  : t.running = s.running
  mem      : ∀ a, t.mem.readByte a = s.mem.readByte a

/-- The frame of an instruction with one destination register: every other register and everything else is unchanged. -/
def FrameBut (r : RegIdx) (s t : State) : Prop :=
  OnlyGprsDiffer s t ∧ ∀ i, i ≠ r → t.readGpr i = s.readGpr i

end Sys2Proof.Machine
end

