-- ==== Sys2Proof/Certificates/Slice0/Obligations.lean ====
section
/-! DEFINITION. The statements for the provers. "Log n" is notes/assumptions/n.md; D and C numbers are entries of
92_eei_decisions.md and 90_conflicts.md. A result formula of 42_cell_operations.md is the spec's own reading of an
operation's name (D30, log 11), and the rows and numbers of the opcode maps and of `OpMap` are the spec's own
choice (D3, D4, log 10); a statement that rests on them says so by basis "derived". -/

open Sys2Proof Sys2Proof.Machine

/-! ### The encodings and the decoder -/

/-- Words written out from the spec's encodings decode to the instructions they stand for (95_test_vectors.md parts 2.1 and
2.2; the opcode numbers are the spec's, D4, log 10). -/
def Obligations.SpecWordsDecode : Prop :=
  decodeInstr .standard 0x27bdffd8#32 0x12345678#64 = .addiu 29#5 29#5 0xffd8#16 ∧
  decodeInstr .standard 0x00851021#32 0#64 = .addu 4#5 5#5 2#5 0#5 ∧
  decodeInstr .standard 0x00041100#32 0#64 = .sll 0#5 4#5 2#5 4#5 ∧
  decodeInstr .standard 0x000000c0#32 0#64 = .ehb ∧
  decodeInstr .standard 0x1000ffff#32 0#64 = .b 0xffff#16 ∧
  decodeInstr .standard 0x8fbf0000#32 0#64 = .lw 29#5 31#5 0#16 ∧
  decodeInstr .standard 0x0000000c#32 4#64 = .syscall 0#5 0#5 0#5 0#5 ∧
  decodeInstr .standard 0x42000018#32 0#64 = .cop0 16#5 0#5 0#5 0#5 24#6 ∧
  decodeInstr .standard 0x00006500#32 0x80000001#64 = .compressed 0x6500#16

/-- 40_decoder.md R63: the grammar is selected by bit 0 of the fetch address alone. -/
def Obligations.DecoderModeIsAddressBitZero : Prop :=
  ∀ (w : InstrWord) (vaddr : Word),
    (vaddr.toNat % 2 = 1 → decode w vaddr = .compressedPlaceholder (w.setWidth 16) vaddr) ∧
    (vaddr.toNat % 2 = 0 → decode w vaddr = .normal (decodeNormal w vaddr))

/-- 40_decoder.md R64: each field of a normal classification as a number of the word's bits; the secondary field is present
exactly for primary 0 (SPECIAL = 0 and the option are the spec's own, D4 and D13). -/
def Obligations.DecoderExtractsEveryField : Prop :=
  ∀ (w : InstrWord) (vaddr : Word), vaddr.toNat % 2 = 0 →
    ∃ f, decode w vaddr = .normal f ∧
      f.primary.toNat = w.toNat / 2 ^ 26 ∧
      f.rs.toNat = w.toNat / 2 ^ 21 % 32 ∧
      f.rt.toNat = w.toNat / 2 ^ 16 % 32 ∧
      f.rd.toNat = w.toNat / 2 ^ 11 % 32 ∧
      f.sa.toNat = w.toNat / 2 ^ 6 % 32 ∧
      f.funct.toNat = w.toNat % 64 ∧
      f.imm16.toNat = w.toNat % 2 ^ 16 ∧
      f.target26.toNat = w.toNat % 2 ^ 26 ∧
      f.secondary = (if w.toNat / 2 ^ 26 = 0 then some f.funct else none) ∧
      f.word = w ∧ f.vaddr = vaddr

/-- Decode and encode agree: for every well-formed instruction, with every operand at every value, the word it encodes to
decodes to it (to the row's own name, for the other name `zeroDest`: log 27). -/
def Obligations.DecodeEncodeRoundTrip : Prop :=
  ∀ (v : Variant) (i : Instr) (vaddr : Word), i.wf v = true → vaddr.getLsbD 0 = i.isCompressed →
    decodeInstr v (encode i) vaddr = i.canonical v

/-- Every word decodes, to a well-formed instruction that encodes back to it (30_encoding.md R57; 40_decoder.md R66). -/
def Obligations.EveryWordDecodesAndEncodesBack : Prop :=
  ∀ (v : Variant) (w : InstrWord) (vaddr : Word), vaddr.getLsbD 0 = false →
    (decodeInstr v w vaddr).wf v = true ∧ encode (decodeInstr v w vaddr) = w

/-- The bytes of an instruction, in either byte order and followed by anything, decode to it and leave what follows
(20_memory.md R29 to R32; the little-endian order is the spec's own, D25, log 21). -/
def Obligations.ByteRoundTrip : Prop :=
  ∀ (v : Variant) (e : Endian) (i : Instr) (vaddr : Word) (rest : List Byte),
    i.wf v = true → vaddr.getLsbD 0 = i.isCompressed →
    decodeBytes v e vaddr (encodeBytes e i ++ rest) = .ok (i.canonical v, rest)

/-- 60_exceptions.md R99: fewer bytes than the encoding requires are rejected, never truncated. -/
def Obligations.TooFewBytesAreRejected : Prop :=
  ∀ (v : Variant) (e : Endian) (vaddr : Word) (bytes : List Byte), bytes.length < consumedLength vaddr →
    consumedLength vaddr = (if vaddr.toNat % 2 = 1 then 2 else 4) ∧
    decodeBytes v e vaddr bytes = .error (.tooFewBytes (consumedLength vaddr) bytes.length) ∧
    disassemble v e vaddr bytes = .error (.tooFewBytes (consumedLength vaddr) bytes.length)

/-- The fetched word as a number of its bytes at rising addresses from the numeric address, in both byte orders and both modes
(20_memory.md R29 to R32; little-endian and the halfword's place are the spec's own, D25 and D12, log 21 and log 18;
addresses wrap modulo 2^64, log 3). -/
def Obligations.FetchAssemblesBytesInOrder : Prop :=
  ∀ (m : Memory) (pc : Word) (b0 b1 b2 b3 : Byte),
    m.readByte (pcaddr pc) = some b0 → m.readByte (pcaddr pc + 1#64) = some b1 →
    (pc.toNat % 2 = 1 →
      (∃ w, fetchWord m .big pc = some w ∧ w.toNat = b0.toNat * 2 ^ 8 + b1.toNat) ∧
      (∃ w, fetchWord m .little pc = some w ∧ w.toNat = b1.toNat * 2 ^ 8 + b0.toNat)) ∧
    (pc.toNat % 2 = 0 → m.readByte (pcaddr pc + 2#64) = some b2 → m.readByte (pcaddr pc + 3#64) = some b3 →
      (∃ w, fetchWord m .big pc = some w ∧
        w.toNat = b0.toNat * 2 ^ 24 + b1.toNat * 2 ^ 16 + b2.toNat * 2 ^ 8 + b3.toNat) ∧
      (∃ w, fetchWord m .little pc = some w ∧
        w.toNat = b3.toNat * 2 ^ 24 + b2.toNat * 2 ^ 16 + b1.toNat * 2 ^ 8 + b0.toNat))

/-- Branch and jump targets as numbers (30_encoding.md R49, R50; the modulus and the numeric address are the spec's own, D20,
log 34). -/
def Obligations.TargetArithmetic : Prop :=
  ∀ (vaddr : Word) (imm : Imm16) (t : BitVec 26),
    ((branchTarget vaddr imm).toNat : Int) =
      (((vaddr.toNat - vaddr.toNat % 2 : Nat) : Int) + 4 + 4 * imm.toInt) % 2 ^ 64 ∧
    (jumpTarget vaddr t).toNat =
      ((vaddr.toNat - vaddr.toNat % 2 + 4) % 2 ^ 64) / 2 ^ 28 * 2 ^ 28 + 4 * t.toNat

/-! ### The translator -/

/-- 41_translator.md R72: an unrecognized primary and secondary combination. -/
def Obligations.UnrecognizedEncodingTranslation : Prop :=
  ∀ (d : Descriptor) (w : InstrWord) (vaddr : Word), vaddr.toNat % 2 = 0 →
    opMap (decodeNormal w vaddr).primary (decodeNormal w vaddr).secondary d.variant = none →
    translateWord d w vaddr = (⟨.invalid, [], [.unimplemented]⟩, [.unimplemented vaddr w])

/-- Every compressed word is `Invalid` with one diagnostic, on every processor (41_translator.md R77; D12, log 18). -/
def Obligations.CompressedTranslation : Prop :=
  ∀ (d : Descriptor) (w : InstrWord) (vaddr : Word), vaddr.toNat % 2 = 1 →
    translateWord d w vaddr = (⟨.invalid, [], [.unimplemented]⟩, [.unimplemented vaddr w])

/-- 41_translator.md R74: the 64-bit check on any row and any processor, its reason and its one diagnostic. -/
def Obligations.SixtyFourBitCheck : Prop :=
  ∀ (sp : OpSpec) (d : Descriptor) (w : InstrWord) (vaddr : Word),
    (Reason.width64On32 ∈ illegalReasons sp d ↔ (sp.reqIsa = .l3 ∨ sp.reqIsa = .l4) ∧ bitWidth d = .w32) ∧
    ((illegalDiags sp d w vaddr).filter (· = .width64On32 vaddr w sp.reqIsa (bitWidth d))).length =
      (if (sp.reqIsa = .l3 ∨ sp.reqIsa = .l4) ∧ bitWidth d = .w32 then 1 else 0)

/-- The level and revision check on any row and any processor, in the numeric order of the codes (41_translator.md R73; D5,
log 13), and its one diagnostic, which names both levels and revisions. -/
def Obligations.LevelRevisionCheck : Prop :=
  ∀ (sp : OpSpec) (d : Descriptor) (w : InstrWord) (vaddr : Word),
    (Reason.isaMismatch ∈ illegalReasons sp d ↔
      levelCode d.isaLevel < levelCode sp.reqIsa ∨
      ((sp.reqIsa = .l32 ∨ sp.reqIsa = .l64) ∧ sp.reqRev = .r2 ∧ d.isaRevision = .r1)) ∧
    (Reason.isaMismatch ∈ illegalReasons sp d →
      (illegalDiags sp d w vaddr).head? =
        some (.isaMismatch vaddr w sp.reqIsa sp.reqRev d.isaLevel d.isaRevision))

/-- A translation emits one diagnostic for each reason of its cell, of the reason's kind and in the reasons' order, and each
names the address and the word (41_translator.md R75, R76; D6, log 14). -/
def Obligations.OneDiagnosticPerReason : Prop :=
  ∀ (d : Descriptor) (w : InstrWord) (vaddr : Word),
    (translateWord d w vaddr).2.map (fun g => match g with
      | .unimplemented a x => some (Reason.unimplemented, a, x)
      | .isaMismatch a x _ _ _ _ => some (Reason.isaMismatch, a, x)
      | .width64On32 a x _ _ => some (Reason.width64On32, a, x)
      | .preRunRefused => none) =
    (translateWord d w vaddr).1.reasons.map (fun r => some (r, vaddr, w))

/-- Every cell a translation returns is well formed: the operands of its shape within their bounds, no destination 0, and
reasons exactly on `Invalid`, one of the four lists (41_translator.md R75, R80; the bounds are the spec's own,
D26, log 28). -/
def Obligations.TranslatedCellsAreWellFormed : Prop :=
  ∀ (d : Descriptor) (w : InstrWord) (vaddr : Word),
    (translateWord d w vaddr).1.wf = true ∧
    ((translateWord d w vaddr).1.operation = .invalid →
      (translateWord d w vaddr).1.reasons ∈
        [[Reason.unimplemented], [.isaMismatch], [.width64On32], [.isaMismatch, .width64On32]])

/-- The default `OpMap` is the same on every variant, so a translation does not depend on it (30_encoding.md R56; D22,
log 10). -/
def Obligations.TranslationIgnoresVariant : Prop :=
  ∀ (d : Descriptor) (v : Variant) (w : InstrWord) (vaddr : Word),
    translateWord { d with variant := v } w vaddr = translateWord d w vaddr

/-- The instruction meanings and the translator agree: what `exec` does with a well-formed instruction is the execution of the
cell that the translator makes of the instruction's word. -/
def Obligations.ExecAgreesWithTranslation : Prop :=
  ∀ (i : Instr) (s : State), i.wf s.desc.variant = true → s.pc.getLsbD 0 = i.isCompressed →
    exec i s = executeCell (translateWord s.desc (encode i) s.pc).1 s

/-! ### What the translated instructions do -/

/-- ADDIU in every form, on every processor (42_cell_operations.md, the rule of `AddImmTrunc32`; formula D30, log 11). -/
def Obligations.AddiuResult : Prop :=
  ∀ (rs rt : RegIdx) (imm : Imm16) (s : State),
    exec (.addiu rs rt imm) s = .next (if rt = 0#5 then s else
      s.writeGpr rt (((s.readGpr rs + imm.signExtend 64).setWidth 32).signExtend 64))

/-- ADDU in every form, on every processor (42_cell_operations.md, the rule of `AddTrunc32`; formula D30, log 11). -/
def Obligations.AdduResult : Prop :=
  ∀ (rs rt rd : RegIdx) (sa : BitVec 5) (s : State),
    exec (.addu rs rt rd sa) s = .next (if rd = 0#5 then s else
      s.writeGpr rd (((s.readGpr rs + s.readGpr rt).setWidth 32).signExtend 64))

/-- DADDIU in every form: its sum on levels 3, 4 and 64, the condition with its reasons on levels 1, 2 and 32, register 0 or
not (42_cell_operations.md, the rule of `AddImm64`; formula D30, log 11; levels D2 and D5, log 12 and log 13;
`Invalid` before `Nop`, D7, log 15). -/
def Obligations.DaddiuResult : Prop :=
  ∀ (rs rt : RegIdx) (imm : Imm16) (s : State),
    (s.desc.isaLevel = .l3 ∨ s.desc.isaLevel = .l4 ∨ s.desc.isaLevel = .l64 →
      exec (.daddiu rs rt imm) s = .next (if rt = 0#5 then s else
        s.writeGpr rt (s.readGpr rs + imm.signExtend 64))) ∧
    (s.desc.isaLevel = .l1 ∨ s.desc.isaLevel = .l2 →
      exec (.daddiu rs rt imm) s =
        .fault (.unimplementedInstruction s.pc [.isaMismatch, .width64On32] s.endRun)) ∧
    (s.desc.isaLevel = .l32 →
      exec (.daddiu rs rt imm) s = .fault (.unimplementedInstruction s.pc [.width64On32] s.endRun))

/-- DADDU in every form, as for DADDIU (42_cell_operations.md, the rule of `Add64`; formula D30, log 11; levels D2 and D5,
log 12 and log 13; `Invalid` before `Nop`, D7, log 15). -/
def Obligations.DadduResult : Prop :=
  ∀ (rs rt rd : RegIdx) (sa : BitVec 5) (s : State),
    (s.desc.isaLevel = .l3 ∨ s.desc.isaLevel = .l4 ∨ s.desc.isaLevel = .l64 →
      exec (.daddu rs rt rd sa) s = .next (if rd = 0#5 then s else
        s.writeGpr rd (s.readGpr rs + s.readGpr rt))) ∧
    (s.desc.isaLevel = .l1 ∨ s.desc.isaLevel = .l2 →
      exec (.daddu rs rt rd sa) s =
        .fault (.unimplementedInstruction s.pc [.isaMismatch, .width64On32] s.endRun)) ∧
    (s.desc.isaLevel = .l32 →
      exec (.daddu rs rt rd sa) s = .fault (.unimplementedInstruction s.pc [.width64On32] s.endRun))

/-- ANDI, ORI and XORI in every form, on every processor: the immediate is zero-extended (42_cell_operations.md, the rules of
`AndImm`, `OrImm` and `XorImm`; formulas D30, log 11). -/
def Obligations.LogicalImmediateResults : Prop :=
  ∀ (rs rt : RegIdx) (imm : Imm16) (s : State),
    exec (.andi rs rt imm) s = .next (if rt = 0#5 then s else
      s.writeGpr rt (s.readGpr rs &&& imm.setWidth 64)) ∧
    exec (.ori rs rt imm) s = .next (if rt = 0#5 then s else
      s.writeGpr rt (s.readGpr rs ||| imm.setWidth 64)) ∧
    exec (.xori rs rt imm) s = .next (if rt = 0#5 then s else
      s.writeGpr rt (s.readGpr rs ^^^ imm.setWidth 64))

/-- LUI in every form, on every processor; `rs` does not matter (42_cell_operations.md, the rule of `SetImm`; formula D30,
log 11). -/
def Obligations.LuiResult : Prop :=
  ∀ (rs rt : RegIdx) (imm : Imm16) (s : State),
    exec (.lui rs rt imm) s = .next (if rt = 0#5 then s else
      s.writeGpr rt (((imm.setWidth 32) <<< 16).signExtend 64))

/-- SLL in every form, on every processor; `rs` does not matter (42_cell_operations.md, the rule of `ShiftLeftImmTrunc32`;
formula D30, log 11). -/
def Obligations.SllResult : Prop :=
  ∀ (rs rt rd : RegIdx) (sa : BitVec 5) (s : State),
    exec (.sll rs rt rd sa) s = .next (if rd = 0#5 then s else
      s.writeGpr rd ((BitVec.ofNat 32 ((s.readGpr rt).toNat * 2 ^ sa.toNat)).signExtend 64))

/-- NOP, SSNOP and EHB complete and change nothing, on every processor (30_encoding.md R58; 42_cell_operations.md R82; no
revision requirement: D24, log 35). -/
def Obligations.NopFormsChangeNothing : Prop :=
  ∀ s : State, exec .nop s = .next s ∧ exec .ssnop s = .next s ∧ exec .ehb s = .next s

/-- A word of a translated row with destination 0: no change on levels 3, 4 and 64, nor on any level for the level-1 rows; for
DADDU and DADDIU the condition on the other levels, since `Invalid` outranks the no-op (41_translator.md R71; D7,
log 15). -/
def Obligations.ZeroDestinationIsElided : Prop :=
  ∀ (w : InstrWord) (s : State), zeroDestWord w = true →
    (s.desc.isaLevel = .l3 ∨ s.desc.isaLevel = .l4 ∨ s.desc.isaLevel = .l64 →
      exec (.zeroDest w) s = .next s) ∧
    (¬ (w.toNat / 2 ^ 26 = 25 ∨ (w.toNat / 2 ^ 26 = 0 ∧ w.toNat % 64 = 45)) → exec (.zeroDest w) s = .next s) ∧
    (w.toNat / 2 ^ 26 = 25 ∨ (w.toNat / 2 ^ 26 = 0 ∧ w.toNat % 64 = 45) →
      (s.desc.isaLevel = .l1 ∨ s.desc.isaLevel = .l2 →
        exec (.zeroDest w) s =
          .fault (.unimplementedInstruction s.pc [.isaMismatch, .width64On32] s.endRun)) ∧
      (s.desc.isaLevel = .l32 →
        exec (.zeroDest w) s = .fault (.unimplementedInstruction s.pc [.width64On32] s.endRun)))

/-! ### Frames -/

/-- The frame of the translated immediate instructions: only the destination register `rt` may change, and not a byte of
memory (42_cell_operations.md R81). -/
def Obligations.ImmediateInstructionFrame : Prop :=
  ∀ (rs rt : RegIdx) (imm : Imm16) (s t : State) (i : Instr),
    i ∈ [Instr.addiu rs rt imm, .daddiu rs rt imm, .andi rs rt imm, .ori rs rt imm, .xori rs rt imm,
      .lui rs rt imm] →
    exec i s = .next t → FrameBut rt s t

/-- The frame of the translated three-register instructions and of SLL: only the destination register `rd` may change, and not
a byte of memory (42_cell_operations.md R81). -/
def Obligations.RegisterInstructionFrame : Prop :=
  ∀ (rs rt rd : RegIdx) (sa : BitVec 5) (s t : State) (i : Instr),
    i ∈ [Instr.addu rs rt rd sa, .daddu rs rt rd sa, .sll rs rt rd sa] →
    exec i s = .next t → FrameBut rd s t

/-- No instruction whatever writes anything but a general register, and none writes register 0 (42_cell_operations.md R81;
41_translator.md R71). -/
def Obligations.ExecWritesOnlyGeneralRegisters : Prop :=
  ∀ (i : Instr) (s t : State), exec i s = .next t → OnlyGprsDiffer s t ∧ t.readGpr 0#5 = s.readGpr 0#5

/-- No instruction reads the external memory: its outcome on another memory is the same but for that memory (20_memory.md
R28). -/
def Obligations.ExecAccessesNoMemory : Prop :=
  ∀ (i : Instr) (s : State) (m : Memory),
    exec i { s with mem := m } =
      match exec i s with
      | .next t => .next { t with mem := m }
      | .fault (.unimplementedInstruction k r a) => .fault (.unimplementedInstruction k r { a with mem := m })
      | .fault (.fetchUnavailable k) => .fault (.fetchUnavailable k)
      | .fault (.malformedCell k) => .fault (.malformedCell k)
      | .refused r => .refused r

/-! ### The instructions with no translated operation -/

/-- The SPECIAL-group arithmetic, logic, shift and move instructions with no row of `OpMap` raise the condition
(41_translator.md R72; 42_cell_operations.md R92; the rows are D3, log 10). -/
def Obligations.UntranslatedArithmeticRaises : Prop :=
  ∀ (rs rt rd : RegIdx) (sa : BitVec 5) (imm : Imm16) (s : State) (i : Instr),
    i ∈ [Instr.movci rs rt rd sa, .srl rs rt rd sa, .sra rs rt rd sa, .sllv rs rt rd sa, .srlv rs rt rd sa,
      .srav rs rt rd sa, .movz rs rt rd sa, .movn rs rt rd sa, .dsllv rs rt rd sa, .dsrlv rs rt rd sa,
      .dsrav rs rt rd sa, .add rs rt rd sa, .sub rs rt rd sa, .subu rs rt rd sa, .and rs rt rd sa,
      .or rs rt rd sa, .xor rs rt rd sa, .nor rs rt rd sa, .slt rs rt rd sa, .sltu rs rt rd sa,
      .dadd rs rt rd sa, .dsub rs rt rd sa, .dsubu rs rt rd sa, .dsll rs rt rd sa, .dsrl rs rt rd sa,
      .dsra rs rt rd sa, .dsll32 rs rt rd sa, .dsrl32 rs rt rd sa, .dsra32 rs rt rd sa, .addi rs rt imm,
      .slti rs rt imm, .sltiu rs rt imm, .daddi rs rt imm] →
    exec i s = .fault (.unimplementedInstruction s.pc [.unimplemented] s.endRun)

/-- The multiply, divide and HI/LO instructions raise the condition (41_translator.md R72; 42_cell_operations.md R92; the rows
are D3, log 10). -/
def Obligations.MultiplyDivideRaises : Prop :=
  ∀ (rs rt rd : RegIdx) (sa : BitVec 5) (s : State) (i : Instr),
    i ∈ [Instr.mfhi rs rt rd sa, .mthi rs rt rd sa, .mflo rs rt rd sa, .mtlo rs rt rd sa, .mult rs rt rd sa,
      .multu rs rt rd sa, .div rs rt rd sa, .divu rs rt rd sa, .dmult rs rt rd sa, .dmultu rs rt rd sa,
      .ddiv rs rt rd sa, .ddivu rs rt rd sa] →
    exec i s = .fault (.unimplementedInstruction s.pc [.unimplemented] s.endRun)

/-- The jumps and branches raise the condition (41_translator.md R72; 42_cell_operations.md R92; the rows are D3, log 10). -/
def Obligations.ControlFlowRaises : Prop :=
  ∀ (rs rt rd : RegIdx) (sa : BitVec 5) (imm : Imm16) (target : BitVec 26) (s : State) (i : Instr),
    i ∈ [Instr.jr rs rt rd sa, .jalr rs rt rd sa, .bltz rs imm, .bgez rs imm, .bltzl rs imm, .bgezl rs imm,
      .bltzal rs imm, .bgezal rs imm, .bltzall rs imm, .bgezall rs imm, .j target, .jal target, .jalx target,
      .beq rs rt imm, .bne rs rt imm, .blez rs rt imm, .bgtz rs rt imm, .beql rs rt imm, .bnel rs rt imm,
      .blezl rs rt imm, .bgtzl rs rt imm, .b imm] →
    exec i s = .fault (.unimplementedInstruction s.pc [.unimplemented] s.endRun)

/-- The system, trap, barrier, prefetch and cache instructions raise the condition: there is no trap entry (41_translator.md
R72; 42_cell_operations.md R92; the rows are D3, log 10). -/
def Obligations.SystemAndTrapRaises : Prop :=
  ∀ (rs rt rd : RegIdx) (sa : BitVec 5) (imm : Imm16) (s : State) (i : Instr),
    i ∈ [Instr.syscall rs rt rd sa, .brk rs rt rd sa, .sync rs rt rd sa, .tge rs rt rd sa, .tgeu rs rt rd sa,
      .tlt rs rt rd sa, .tltu rs rt rd sa, .teq rs rt rd sa, .tne rs rt rd sa, .tgei rs imm, .tgeiu rs imm,
      .tlti rs imm, .tltiu rs imm, .teqi rs imm, .tnei rs imm, .synci rs imm, .cache rs rt imm,
      .pref rs rt imm] →
    exec i s = .fault (.unimplementedInstruction s.pc [.unimplemented] s.endRun)

/-- The loads, stores and atomics raise the condition (41_translator.md R72; 42_cell_operations.md R92; the rows are D3,
log 10). -/
def Obligations.LoadStoreRaises : Prop :=
  ∀ (rs rt : RegIdx) (imm : Imm16) (s : State) (i : Instr),
    i ∈ [Instr.ldl rs rt imm, .ldr rs rt imm, .lb rs rt imm, .lh rs rt imm, .lwl rs rt imm, .lw rs rt imm,
      .lbu rs rt imm, .lhu rs rt imm, .lwr rs rt imm, .lwu rs rt imm, .ld rs rt imm, .sb rs rt imm,
      .sh rs rt imm, .swl rs rt imm, .sw rs rt imm, .sdl rs rt imm, .sdr rs rt imm, .swr rs rt imm,
      .sd rs rt imm, .ll rs rt imm, .lld rs rt imm, .sc rs rt imm, .scd rs rt imm] →
    exec i s = .fault (.unimplementedInstruction s.pc [.unimplemented] s.endRun)

/-- The coprocessor, SPECIAL2 and SPECIAL3 groups and the coprocessor loads and stores raise the condition (30_encoding.md R55;
41_translator.md R72; 42_cell_operations.md R92). -/
def Obligations.CoprocessorGroupsRaise : Prop :=
  ∀ (rs rt rd : RegIdx) (sa : BitVec 5) (funct : BitVec 6) (imm : Imm16) (s : State) (i : Instr),
    i ∈ [Instr.cop0 rs rt rd sa funct, .cop1 rs rt rd sa funct, .cop2 rs rt rd sa funct, .cop1x rs rt rd sa funct,
      .special2 rs rt rd sa funct, .special3 rs rt rd sa funct, .lwc1 rs rt imm, .lwc2 rs rt imm,
      .ldc1 rs rt imm, .ldc2 rs rt imm, .swc1 rs rt imm, .swc2 rs rt imm, .sdc1 rs rt imm, .sdc2 rs rt imm] →
    exec i s = .fault (.unimplementedInstruction s.pc [.unimplemented] s.endRun)

/-- The R5900 rows, the compressed placeholder and every other word raise the condition (30_encoding.md R56, R57;
41_translator.md R72, R77; 42_cell_operations.md R92). -/
def Obligations.VariantCompressedAndOtherWordsRaise : Prop :=
  ∀ (rs rt rd : RegIdx) (sa : BitVec 5) (funct : BitVec 6) (imm : Imm16) (half : Half) (w : InstrWord) (s : State)
    (i : Instr),
    i ∈ [Instr.mmiR5900 rs rt rd sa funct, .lqR5900 rs rt imm, .sqR5900 rs rt imm, .mfsaR5900 rs rt rd sa,
      .mtsaR5900 rs rt rd sa, .mtsabR5900 rs imm, .mtsahR5900 rs imm, .compressed half, .unrecognized w] →
    exec i s = .fault (.unimplementedInstruction s.pc [.unimplemented] s.endRun)

/-! ### The driver's step and the translation cache -/

/-- A step runs the decoded instruction: on a miss, where the bytes at `pc` decode to a well-formed instruction, the step is
`exec` of it on the state whose run is started, whose sink has the translation's diagnostics and whose cache has the
new entry, followed by the advance of `pc` by 4 (41_translator.md R78, R79; 42_cell_operations.md R93, D16,
log 20). -/
def Obligations.StepRunsDecodedInstruction : Prop :=
  ∀ (s : State) (w : InstrWord) (i : Instr),
    s.ready → s.lookup s.pc = none → fetchWord s.mem s.endian s.pc = some w →
    decodeInstr s.desc.variant w s.pc = i → i.wf s.desc.variant = true →
    step s =
      match exec i ((s.started.emit (translateWord s.desc w s.pc).2).fill s.pc ⟨w, (translateWord s.desc w s.pc).1⟩) with
      | .next t => .next { t with pc := t.pc + 4#64 }
      | .fault r => .fault r
      | .refused r => .refused r

/-- On a hit in a coherent cache the step is `exec` of the instruction the cached word decodes to, whatever memory now holds,
followed by the advance of `pc` (41_translator.md R78; 42_cell_operations.md R93, D16, log 20). -/
def Obligations.CachedStepRunsCachedInstruction : Prop :=
  ∀ (s : State) (e : Entry),
    s.ready → s.cacheCoherent → s.lookup s.pc = some e →
    step s =
      match exec (decodeInstr s.desc.variant e.word s.pc) s.started with
      | .next t => .next { t with pc := t.pc + 4#64 }
      | .fault r => .fault r
      | .refused r => .refused r

/-- 41_translator.md R79 and R78: a miss fills exactly the entry of `pc`, and hands the sink the translation's diagnostics; a hit
fills nothing and emits nothing. The same holds of the state a raised condition leaves. -/
def Obligations.FillOnMissOnly : Prop :=
  ∀ (s : State), s.ready →
    (∀ e, s.lookup s.pc = some e →
      (stateAfter s (step s)).cache = s.cache ∧ (stateAfter s (step s)).sink = s.sink) ∧
    (∀ w, s.lookup s.pc = none → fetchWord s.mem s.endian s.pc = some w →
      (stateAfter s (step s)).lookup s.pc = some ⟨w, (translateWord s.desc w s.pc).1⟩ ∧
      (∀ k, k ≠ s.pc → (stateAfter s (step s)).lookup k = s.lookup k) ∧
      (stateAfter s (step s)).sink = s.sink ++ (translateWord s.desc w s.pc).2)

/-- 70_reset_and_hazards.md R112: an external write of memory, whatever it covers, leaves the cached cell of `pc` in use, and the
step is what it was but for memory: there is no fetch on a hit. So it stays until a range that covers the cell's bytes
is invalidated or a reset clears the cache. -/
def Obligations.StaleCellRunsUntilInvalidated : Prop :=
  ∀ (s : State) (e : Entry) (addr : Word) (bytes : List Byte), s.lookup s.pc = some e →
    ∃ m, perform (.externalWrite addr bytes) s = .next { s with mem := m } ∧
      State.lookup { s with mem := m } s.pc = some e ∧
      step { s with mem := m } =
        (match step s with
        | .next t => .next { t with mem := m }
        | .fault (.unimplementedInstruction k r a) => .fault (.unimplementedInstruction k r { a with mem := m })
        | .fault (.fetchUnavailable k) => .fault (.fetchUnavailable k)
        | .fault (.malformedCell k) => .fault (.malformedCell k)
        | .refused (.preRunRefused a) => .refused (.preRunRefused { a with mem := m })
        | .refused (.modelNameFixed n) => .refused (.modelNameFixed n)
        | .refused (.notModelled n) => .refused (.notModelled n)) ∧
      (∀ lo hi : Int, lo ≤ (s.pc.toNat : Int) - (s.pc.toNat % 2 : Nat) → (s.pc.toNat : Int) + 4 ≤ hi →
        ∃ t, perform (.invalidateRange lo hi) { s with mem := m } = .next t ∧ t.lookup s.pc = none) ∧
      ∃ t, perform .reset { s with mem := m } = .next t ∧ t.lookup s.pc = none

/-- `invalidate` removes exactly the entries that have a byte in the range (20_memory.md R41; D11, log 17), and changes nothing
else. The bytes of a key: 4 from the numeric address, or 2 for a compressed key. -/
def Obligations.InvalidateRemovesOverlappingEntries : Prop :=
  ∀ (s : State) (lo hi : Int) (k : Word),
    ((∃ a : Int, lo ≤ a ∧ a < hi ∧ ((k.toNat - k.toNat % 2 : Nat) : Int) ≤ a ∧
        a < ((k.toNat - k.toNat % 2 : Nat) : Int) + (if k.toNat % 2 = 1 then 2 else 4)) →
      (s.invalidateRange lo hi).lookup k = none) ∧
    (¬ (∃ a : Int, lo ≤ a ∧ a < hi ∧ ((k.toNat - k.toNat % 2 : Nat) : Int) ≤ a ∧
        a < ((k.toNat - k.toNat % 2 : Nat) : Int) + (if k.toNat % 2 = 1 then 2 else 4)) →
      (s.invalidateRange lo hi).lookup k = s.lookup k) ∧
    (∀ a : Int, s.invalidateAddress a = s.invalidateRange a (a + 1)) ∧
    OnlyGprsDiffer { s with cache := (s.invalidateRange lo hi).cache } (s.invalidateRange lo hi) ∧
    (∀ i, (s.invalidateRange lo hi).readGpr i = s.readGpr i)

/-- The life of an entry (10_state.md R23): only an invalidation or a reset removes it, no transaction replaces it, and only a step
that misses creates one: the entry of `pc`, of the fetched word and its translation (41_translator.md R79). -/
def Obligations.EntriesComeByFillAndGoByInvalidation : Prop :=
  ∀ (t : Transaction) (s : State) (k : Word) (e : Entry),
    (s.lookup k = some e → t ≠ .reset → (∀ lo hi, t ≠ .invalidateRange lo hi) → (∀ a, t ≠ .invalidateAddress a) →
      (stateAfter s (perform t s)).lookup k = some e) ∧
    (s.lookup k = none → (stateAfter s (perform t s)).lookup k = some e →
      t = .driverStep ∧ k = s.pc ∧ fetchWord s.mem s.endian s.pc = some e.word ∧
        e.cell = (translateWord s.desc e.word s.pc).1)

/-- A step that completes advances `pc` by 4 modulo 2^64, changes at most one general register, at most the cache entry of `pc`,
only adds to the sink, and changes neither HI, LO, the descriptor, the byte order, the page size nor memory; a run is
then active (42_cell_operations.md R81, R93; 41_translator.md R79; D16, log 20; log 7). -/
def Obligations.StepFrame : Prop :=
  ∀ s t : State, step s = .next t →
    t.pc.toNat = (s.pc.toNat + 4) % 2 ^ 64 ∧ t.hi = s.hi ∧ t.lo = s.lo ∧ t.desc = s.desc ∧ t.endian = s.endian ∧
    t.pageSize = s.pageSize ∧ t.mem = s.mem ∧ t.running = true ∧
    (∃ r, ∀ i, i ≠ r → t.readGpr i = s.readGpr i) ∧
    (∀ k, k ≠ s.pc → t.lookup k = s.lookup k) ∧
    ∃ ds, t.sink = s.sink ++ ds

/-- 42_cell_operations.md R92: reaching a cached `Invalid` cell raises the condition with the cell's key and reasons. Its
operation does not run: no register, `pc`, cache or other state changes, and no diagnostic is emitted again (`b` is the
model's own flag of the run, log 7). -/
def Obligations.InvalidCellRaises : Prop :=
  ∀ (s : State) (word : InstrWord) (operands : List OperandBinding) (reasons : List Reason),
    s.ready → s.lookup s.pc = some ⟨word, ⟨.invalid, operands, reasons⟩⟩ →
    ∃ b, step s = .fault (.unimplementedInstruction s.pc reasons { s with running := b })

/-- A word of no row of `OpMap`, or any word in compressed mode, met for the first time: the step raises the condition, and the
state it leaves has the new entry and the one diagnostic, and is otherwise unchanged (41_translator.md R72, R77, R79;
42_cell_operations.md R92; 60_exceptions.md R100, D15, log 8). -/
def Obligations.UntranslatedWordRaisesAndIsCached : Prop :=
  ∀ (s : State) (w : InstrWord),
    s.ready → s.lookup s.pc = none → fetchWord s.mem s.endian s.pc = some w →
    (s.pc.toNat % 2 = 1 ∨
      opMap (decodeNormal w s.pc).primary (decodeNormal w s.pc).secondary s.desc.variant = none) →
    step s = .fault (.unimplementedInstruction s.pc [.unimplemented]
      { s with
        cache := assocPut s.cache s.pc.toNat ⟨w, ⟨.invalid, [], [.unimplemented]⟩⟩
        sink := s.sink ++ [.unimplemented s.pc w]
        running := false })

/-! ### Invariants -/

/-- The invariant holds at reset. -/
def Obligations.InvariantHoldsAtReset : Prop := State.reset.Inv

/-- Every step keeps the invariant: memory and cache in canonical form, every cached cell the translation of its word, `x[0] = 0`
in a run, the page size 4096 (10_state.md R16, R22; 41_translator.md R79; 70_reset_and_hazards.md R113). -/
def Obligations.StepKeepsInvariant : Prop :=
  ∀ s t : State, s.Inv → step s = .next t → t.Inv

/-- Every transaction of the outside keeps the invariant, in the state it leaves even when it raises a condition or is refused:
inside a run `x[0]` stays 0 (70_reset_and_hazards.md R113), since a registry set, of `x[0]` or another, is between runs
(that it ends an active run is log 33; the flag of a run is log 7). -/
def Obligations.TransactionsKeepInvariant : Prop :=
  ∀ (t : Transaction) (s : State), s.Inv → (stateAfter s (perform t s)).Inv

/-- A step from a state of the invariant that can run, with its instruction cached or fetchable, either completes or raises
`UnimplementedInstruction` at `pc` with a non-empty list of reasons, and nothing else (60_exceptions.md R101,
R103). -/
def Obligations.StepCompletesOrRaisesOneCondition : Prop :=
  ∀ s : State, s.Inv → s.ready →
    ((s.lookup s.pc).isSome = true ∨ (fetchWord s.mem s.endian s.pc).isSome = true) →
    (∃ t, step s = .next t) ∨
    (∃ reasons after, step s = .fault (.unimplementedInstruction s.pc reasons after) ∧ reasons ≠ [])

/-! ### Runs, reset, construction and the interfaces -/

/-- The start of a run, asked for inside a run or outside (60_exceptions.md R96). With `x[0] ≠ 0` it is refused, with one diagnostic
and no register, no cache entry and nothing else changed, and no run is active; otherwise the run proceeds. A reset, or a
registry write of 0 to `x[0]`, makes the next start possible. The flag of a run, and a start inside one, are log 7. -/
def Obligations.PreRunCheck : Prop :=
  ∀ s : State,
    (s.readGpr 0#5 ≠ 0#64 →
      startRun s = .refused (.preRunRefused { s with sink := s.sink ++ [.preRunRefused], running := false })) ∧
    (s.readGpr 0#5 = 0#64 → startRun s = .next { s with running := true }) ∧
    (∃ t, startRun (processorReset s) = .next t) ∧
    (∃ t, startRun (registrySet s (.gpr 0#5) 0#64) = .next t)

/-- A step outside a run starts one, so no cell executes past a failed check; inside a run there is no check. A refused start, and a
step that faults, leave no run active, so the next step is checked (60_exceptions.md R96; when the check runs is D17,
log 22; the model's flag of a run and what ends it, a fetch that supplies no word included, log 7). -/
def Obligations.StepChecksWhereNoRunIsActive : Prop :=
  ∀ s : State,
    (s.running = false → s.readGpr 0#5 ≠ 0#64 →
      step s = .refused (.preRunRefused { s with sink := s.sink ++ [.preRunRefused] })) ∧
    (s.running = false → s.readGpr 0#5 = 0#64 → step s = step { s with running := true }) ∧
    (s.running = true → ∀ r, step s ≠ .refused r) ∧
    (∀ r, startRun s = .refused r → (stateAfter s (startRun s)).running = false) ∧
    (∀ r, step s = .fault r → (stateAfter s (step s)).running = false)

/-- Reset zeroes the Register File and clears the cache; the descriptor, byte order and page size are unchanged
(70_reset_and_hazards.md R110; 10_state.md R26; that `pc` is zeroed is D18, log 6). That one reset does both and that
memory and the emitted diagnostics stay is log 37; no run is active and the next one can start (log 7). -/
def Obligations.ResetClearsRegistersAndCache : Prop :=
  ∀ (s : State) (i : RegIdx) (k : Word),
    perform .reset s = .next (processorReset s) ∧
    (processorReset s).readGpr i = 0#64 ∧ (processorReset s).hi = 0#64 ∧ (processorReset s).lo = 0#64 ∧
    (processorReset s).pc = 0#64 ∧ (processorReset s).lookup k = none ∧ (processorReset s).desc = s.desc ∧
    bitWidth (processorReset s).desc = bitWidth s.desc ∧
    (processorReset s).endian = s.endian ∧ (processorReset s).pageSize = s.pageSize ∧
    (processorReset s).sink = s.sink ∧ (processorReset s).mem = s.mem ∧ (processorReset s).running = false ∧
    startRun (processorReset s) = .next (processorReset s).started

/-- 60_exceptions.md R95: with no catalog record of the wanted name, the default one if none is given, no instance comes into
existence. -/
def Obligations.UnrecognizedModelIsFatal : Prop :=
  ∀ (catalog : List Descriptor) (dflt : String) (name : Option String) (e : Endian),
    (∀ d ∈ catalog, d.name ≠ name.getD dflt) →
    construct catalog dflt name e = .error (.fatalConstruction (name.getD dflt))

/-- A successful construction takes a record of exactly the wanted name and the values after construction (10_state.md R10, R26;
70_reset_and_hazards.md R109). That of two records of one name the first is taken, and that the empty name is no model's,
are the model's choice (log 24); that `pc` is 0 is D18 (log 6). -/
def Obligations.ConstructionZeroesTheRegisterFile : Prop :=
  ∀ (before after : List Descriptor) (d : Descriptor) (dflt : String) (name : Option String) (e : Endian),
    (∀ b ∈ before, b.name ≠ name.getD dflt) → d.name = name.getD dflt → d.name ≠ "" →
    ∃ s, construct (before ++ d :: after) dflt name e = .ok s ∧ s.desc = d ∧ s.endian = e ∧ s.pageSize = 4096 ∧
      (∀ i, s.readGpr i = 0#64) ∧ s.hi = 0#64 ∧ s.lo = 0#64 ∧ s.pc = 0#64 ∧ s.cache = [] ∧ s.sink = []

/-- The registry mirrors the Register File: a set name reads back its value, the storage of `x[0]` included, and every other name
keeps its own, as does everything outside the Register File (10_state.md R13, R27); an active run is over (log 33). A set
of the model name is refused and changes nothing (C4, D27, log 23). -/
def Obligations.RegistrySetThenGet : Prop :=
  ∀ (s : State) (r q : RegName) (v : Word) (name : String),
    registryGet (registrySet s r v) r = v ∧
    (q ≠ r → registryGet (registrySet s r v) q = registryGet s q) ∧
    perform (.registrySet r v) s = .next (registrySet s r v) ∧
    (registrySet s r v).desc = s.desc ∧ (registrySet s r v).pageSize = s.pageSize ∧
    (registrySet s r v).endian = s.endian ∧ (registrySet s r v).cache = s.cache ∧
    (registrySet s r v).sink = s.sink ∧ (registrySet s r v).mem = s.mem ∧ (registrySet s r v).running = false ∧
    perform (.setModelName name) s = .refused (.modelNameFixed name) ∧
    stateAfter s (perform (.setModelName name) s) = s

/-- 20_memory.md R33 to R36: the two fixed segments as ranges of numbers, in 64-bit mode and, after sign extension of the low 32
bits, in 32-bit mode, where the second segment is never met; everything else is a miss (C1 for the bound). The width is
the instance's own (C5). -/
def Obligations.AddressTranslatorSegments : Prop :=
  ∀ va : Word,
    (0xFFFFFFFF80000000 ≤ va.toNat ∧ va.toNat < 0xFFFFFFFFC0000000 →
      ∃ pa, translateAddressAt .w64 va = some (pa, true) ∧ pa.toNat = va.toNat % 2 ^ 29) ∧
    (0xA800000000000000 ≤ va.toNat ∧ va.toNat ≤ 0xA8000FFFFFFFFFFF →
      ∃ pa, translateAddressAt .w64 va = some (pa, true) ∧ pa.toNat = va.toNat % 2 ^ 44) ∧
    (¬ (0xFFFFFFFF80000000 ≤ va.toNat ∧ va.toNat < 0xFFFFFFFFC0000000) →
      ¬ (0xA800000000000000 ≤ va.toNat ∧ va.toNat ≤ 0xA8000FFFFFFFFFFF) → translateAddressAt .w64 va = none) ∧
    (0x80000000 ≤ va.toNat % 2 ^ 32 ∧ va.toNat % 2 ^ 32 < 0xC0000000 →
      ∃ pa, translateAddressAt .w32 va = some (pa, true) ∧ pa.toNat = va.toNat % 2 ^ 29) ∧
    (¬ (0x80000000 ≤ va.toNat % 2 ^ 32 ∧ va.toNat % 2 ^ 32 < 0xC0000000) → translateAddressAt .w32 va = none) ∧
    translateAddressAt .w32 va = translateAddressAt .w64 ((va.setWidth 32).signExtend 64) ∧
    (∀ s : State, translateAddress s va = translateAddressAt (bitWidth s.desc) va)

/-- 60_exceptions.md R107: instances share no mutable state. A transaction on one leaves every other as it was, and its effect does
not depend on the others. -/
def Obligations.InstancesAreIndependent : Prop :=
  ∀ (k : Nat) (t : Transaction) (xs ys : List State) (s : State),
    xs[k]? = some s → ys[k]? = some s →
    ∃ xs' ys', performOn k t xs = some xs' ∧ performOn k t ys = some ys' ∧
      xs'[k]? = ys'[k]? ∧ xs'[k]? = some (stateAfter s (perform t s)) ∧
      (∀ j, j ≠ k → xs'[j]? = xs[j]?) ∧ (∀ j, j ≠ k → ys'[j]? = ys[j]?)
end

