-- ==== Sys2Proof/Laws/State.lean ====
section
/-! SUPPORT. One lemma per field per update of the state, and the register read after each update. -/

namespace Sys2Proof.Machine

/-! ### `writeGpr` -/

@[simp] theorem State.writeGpr_desc (s : State) (i : RegIdx) (v : Word) : (s.writeGpr i v).desc = s.desc := rfl
@[simp] theorem State.writeGpr_gpr (s : State) (i : RegIdx) (v : Word) : (s.writeGpr i v).gpr = s.gpr.set i.toNat v i.isLt := rfl
@[simp] theorem State.writeGpr_hi (s : State) (i : RegIdx) (v : Word) : (s.writeGpr i v).hi = s.hi := rfl
@[simp] theorem State.writeGpr_lo (s : State) (i : RegIdx) (v : Word) : (s.writeGpr i v).lo = s.lo := rfl
@[simp] theorem State.writeGpr_pc (s : State) (i : RegIdx) (v : Word) : (s.writeGpr i v).pc = s.pc := rfl
@[simp] theorem State.writeGpr_pageSize (s : State) (i : RegIdx) (v : Word) : (s.writeGpr i v).pageSize = s.pageSize := rfl
@[simp] theorem State.writeGpr_endian (s : State) (i : RegIdx) (v : Word) : (s.writeGpr i v).endian = s.endian := rfl
@[simp] theorem State.writeGpr_cache (s : State) (i : RegIdx) (v : Word) : (s.writeGpr i v).cache = s.cache := rfl
@[simp] theorem State.writeGpr_sink (s : State) (i : RegIdx) (v : Word) : (s.writeGpr i v).sink = s.sink := rfl
@[simp] theorem State.writeGpr_running (s : State) (i : RegIdx) (v : Word) : (s.writeGpr i v).running = s.running := rfl
@[simp] theorem State.writeGpr_mem (s : State) (i : RegIdx) (v : Word) : (s.writeGpr i v).mem = s.mem := rfl

/-! ### `advancePc` -/

@[simp] theorem State.advancePc_desc (s : State) : (s.advancePc).desc = s.desc := rfl
@[simp] theorem State.advancePc_gpr (s : State) : (s.advancePc).gpr = s.gpr := rfl
@[simp] theorem State.advancePc_hi (s : State) : (s.advancePc).hi = s.hi := rfl
@[simp] theorem State.advancePc_lo (s : State) : (s.advancePc).lo = s.lo := rfl
@[simp] theorem State.advancePc_pc (s : State) : (s.advancePc).pc = s.pc + 4#64 := rfl
@[simp] theorem State.advancePc_pageSize (s : State) : (s.advancePc).pageSize = s.pageSize := rfl
@[simp] theorem State.advancePc_endian (s : State) : (s.advancePc).endian = s.endian := rfl
@[simp] theorem State.advancePc_cache (s : State) : (s.advancePc).cache = s.cache := rfl
@[simp] theorem State.advancePc_sink (s : State) : (s.advancePc).sink = s.sink := rfl
@[simp] theorem State.advancePc_running (s : State) : (s.advancePc).running = s.running := rfl
@[simp] theorem State.advancePc_mem (s : State) : (s.advancePc).mem = s.mem := rfl
@[simp] theorem State.advancePc_readGpr (s : State) (r : RegIdx) : (s.advancePc).readGpr r = s.readGpr r := rfl

/-! ### `fill` -/

@[simp] theorem State.fill_desc (s : State) (k : Word) (e : Entry) : (s.fill k e).desc = s.desc := rfl
@[simp] theorem State.fill_gpr (s : State) (k : Word) (e : Entry) : (s.fill k e).gpr = s.gpr := rfl
@[simp] theorem State.fill_hi (s : State) (k : Word) (e : Entry) : (s.fill k e).hi = s.hi := rfl
@[simp] theorem State.fill_lo (s : State) (k : Word) (e : Entry) : (s.fill k e).lo = s.lo := rfl
@[simp] theorem State.fill_pc (s : State) (k : Word) (e : Entry) : (s.fill k e).pc = s.pc := rfl
@[simp] theorem State.fill_pageSize (s : State) (k : Word) (e : Entry) : (s.fill k e).pageSize = s.pageSize := rfl
@[simp] theorem State.fill_endian (s : State) (k : Word) (e : Entry) : (s.fill k e).endian = s.endian := rfl
@[simp] theorem State.fill_cache (s : State) (k : Word) (e : Entry) : (s.fill k e).cache = assocPut s.cache k.toNat e := rfl
@[simp] theorem State.fill_sink (s : State) (k : Word) (e : Entry) : (s.fill k e).sink = s.sink := rfl
@[simp] theorem State.fill_running (s : State) (k : Word) (e : Entry) : (s.fill k e).running = s.running := rfl
@[simp] theorem State.fill_mem (s : State) (k : Word) (e : Entry) : (s.fill k e).mem = s.mem := rfl
@[simp] theorem State.fill_readGpr (s : State) (k : Word) (e : Entry) (r : RegIdx) : (s.fill k e).readGpr r = s.readGpr r := rfl

/-! ### `emit` -/

@[simp] theorem State.emit_desc (s : State) (ds : List Diag) : (s.emit ds).desc = s.desc := rfl
@[simp] theorem State.emit_gpr (s : State) (ds : List Diag) : (s.emit ds).gpr = s.gpr := rfl
@[simp] theorem State.emit_hi (s : State) (ds : List Diag) : (s.emit ds).hi = s.hi := rfl
@[simp] theorem State.emit_lo (s : State) (ds : List Diag) : (s.emit ds).lo = s.lo := rfl
@[simp] theorem State.emit_pc (s : State) (ds : List Diag) : (s.emit ds).pc = s.pc := rfl
@[simp] theorem State.emit_pageSize (s : State) (ds : List Diag) : (s.emit ds).pageSize = s.pageSize := rfl
@[simp] theorem State.emit_endian (s : State) (ds : List Diag) : (s.emit ds).endian = s.endian := rfl
@[simp] theorem State.emit_cache (s : State) (ds : List Diag) : (s.emit ds).cache = s.cache := rfl
@[simp] theorem State.emit_sink (s : State) (ds : List Diag) : (s.emit ds).sink = s.sink ++ ds := rfl
@[simp] theorem State.emit_running (s : State) (ds : List Diag) : (s.emit ds).running = s.running := rfl
@[simp] theorem State.emit_mem (s : State) (ds : List Diag) : (s.emit ds).mem = s.mem := rfl
@[simp] theorem State.emit_readGpr (s : State) (ds : List Diag) (r : RegIdx) : (s.emit ds).readGpr r = s.readGpr r := rfl

/-! ### `endRun` -/

@[simp] theorem State.endRun_desc (s : State) : (s.endRun).desc = s.desc := rfl
@[simp] theorem State.endRun_gpr (s : State) : (s.endRun).gpr = s.gpr := rfl
@[simp] theorem State.endRun_hi (s : State) : (s.endRun).hi = s.hi := rfl
@[simp] theorem State.endRun_lo (s : State) : (s.endRun).lo = s.lo := rfl
@[simp] theorem State.endRun_pc (s : State) : (s.endRun).pc = s.pc := rfl
@[simp] theorem State.endRun_pageSize (s : State) : (s.endRun).pageSize = s.pageSize := rfl
@[simp] theorem State.endRun_endian (s : State) : (s.endRun).endian = s.endian := rfl
@[simp] theorem State.endRun_cache (s : State) : (s.endRun).cache = s.cache := rfl
@[simp] theorem State.endRun_sink (s : State) : (s.endRun).sink = s.sink := rfl
@[simp] theorem State.endRun_running (s : State) : (s.endRun).running = false := rfl
@[simp] theorem State.endRun_mem (s : State) : (s.endRun).mem = s.mem := rfl
@[simp] theorem State.endRun_readGpr (s : State) (r : RegIdx) : (s.endRun).readGpr r = s.readGpr r := rfl

/-! ### `invalidateRange` -/

@[simp] theorem State.invalidateRange_desc (s : State) (lo hi : Int) : (s.invalidateRange lo hi).desc = s.desc := rfl
@[simp] theorem State.invalidateRange_gpr (s : State) (lo hi : Int) : (s.invalidateRange lo hi).gpr = s.gpr := rfl
@[simp] theorem State.invalidateRange_hi (s : State) (lo hi : Int) : (s.invalidateRange lo hi).hi = s.hi := rfl
@[simp] theorem State.invalidateRange_lo (s : State) (lo hi : Int) : (s.invalidateRange lo hi).lo = s.lo := rfl
@[simp] theorem State.invalidateRange_pc (s : State) (lo hi : Int) : (s.invalidateRange lo hi).pc = s.pc := rfl
@[simp] theorem State.invalidateRange_pageSize (s : State) (lo hi : Int) : (s.invalidateRange lo hi).pageSize = s.pageSize := rfl
@[simp] theorem State.invalidateRange_endian (s : State) (lo hi : Int) : (s.invalidateRange lo hi).endian = s.endian := rfl
@[simp] theorem State.invalidateRange_cache (s : State) (lo hi : Int) : (s.invalidateRange lo hi).cache = s.cache.filter (fun p => !keyOverlaps p.1 lo hi) := rfl
@[simp] theorem State.invalidateRange_sink (s : State) (lo hi : Int) : (s.invalidateRange lo hi).sink = s.sink := rfl
@[simp] theorem State.invalidateRange_running (s : State) (lo hi : Int) : (s.invalidateRange lo hi).running = s.running := rfl
@[simp] theorem State.invalidateRange_mem (s : State) (lo hi : Int) : (s.invalidateRange lo hi).mem = s.mem := rfl
@[simp] theorem State.invalidateRange_readGpr (s : State) (lo hi : Int) (r : RegIdx) : (s.invalidateRange lo hi).readGpr r = s.readGpr r := rfl

/-! ### Reading a register after a write -/

@[simp] theorem State.readGpr_writeGpr_same (s : State) (i : RegIdx) (v : Word) : (s.writeGpr i v).readGpr i = v := by
  simp [State.readGpr, State.writeGpr]

theorem State.readGpr_writeGpr_other (s : State) {i j : RegIdx} (v : Word) (h : j ≠ i) :
    (s.writeGpr i v).readGpr j = s.readGpr j := by
  have : i.toNat ≠ j.toNat := fun e => h (BitVec.eq_of_toNat_eq e.symm)
  simp [State.readGpr, State.writeGpr, this]

theorem State.readGpr_writeGpr (s : State) (i j : RegIdx) (v : Word) :
    (s.writeGpr i v).readGpr j = if j = i then v else s.readGpr j := by
  split
  · next h => subst h; simp
  · next h => exact s.readGpr_writeGpr_other v h

/-! ### Reset -/

@[simp] theorem processorReset_desc (s : State) : (processorReset s).desc = s.desc := rfl
@[simp] theorem processorReset_endian (s : State) : (processorReset s).endian = s.endian := rfl
@[simp] theorem processorReset_pageSize (s : State) : (processorReset s).pageSize = s.pageSize := rfl
@[simp] theorem processorReset_sink (s : State) : (processorReset s).sink = s.sink := rfl
@[simp] theorem processorReset_mem (s : State) : (processorReset s).mem = s.mem := rfl
@[simp] theorem processorReset_hi (s : State) : (processorReset s).hi = 0#64 := rfl
@[simp] theorem processorReset_lo (s : State) : (processorReset s).lo = 0#64 := rfl
@[simp] theorem processorReset_pc (s : State) : (processorReset s).pc = 0#64 := rfl
@[simp] theorem processorReset_cache (s : State) : (processorReset s).cache = [] := rfl
@[simp] theorem processorReset_running (s : State) : (processorReset s).running = false := rfl

@[simp] theorem processorReset_readGpr (s : State) (i : RegIdx) : (processorReset s).readGpr i = 0#64 := by
  simp [State.readGpr, processorReset]

@[simp] theorem State.fresh_readGpr (d : Descriptor) (e : Endian) (i : RegIdx) : (State.fresh d e).readGpr i = 0#64 := by
  simp [State.readGpr, State.fresh]

/-! ### `registrySet` -/

@[simp] theorem registrySet_desc (s : State) (r : RegName) (v : Word) : (registrySet s r v).desc = s.desc := by cases r <;> rfl
@[simp] theorem registrySet_pageSize (s : State) (r : RegName) (v : Word) : (registrySet s r v).pageSize = s.pageSize := by cases r <;> rfl
@[simp] theorem registrySet_endian (s : State) (r : RegName) (v : Word) : (registrySet s r v).endian = s.endian := by cases r <;> rfl
@[simp] theorem registrySet_cache (s : State) (r : RegName) (v : Word) : (registrySet s r v).cache = s.cache := by cases r <;> rfl
@[simp] theorem registrySet_sink (s : State) (r : RegName) (v : Word) : (registrySet s r v).sink = s.sink := by cases r <;> rfl
@[simp] theorem registrySet_running (s : State) (r : RegName) (v : Word) : (registrySet s r v).running = false := rfl
@[simp] theorem registrySet_mem (s : State) (r : RegName) (v : Word) : (registrySet s r v).mem = s.mem := by cases r <;> rfl

end Sys2Proof.Machine
end

