-- ==== Sys2Proof/Laws/Maps.lean ====
section
/-! SUPPORT. The laws of finite maps with rising keys, and that every operation on the memory and on the cache keeps the
canonical form. -/

namespace Sys2Proof.Machine

variable {α : Type}

@[simp] theorem assocGet_nil (k : Nat) : assocGet ([] : List (Nat × α)) k = none := rfl

theorem assocGet_cons (k : Nat) (v : α) (l : List (Nat × α)) (key : Nat) :
    assocGet ((k, v) :: l) key = if k = key then some v else assocGet l key := rfl

/-- A key below every listed one has no value. -/
theorem assocGet_eq_none_of_lt {l : List (Nat × α)} {key : Nat} (h : ∀ p ∈ l, key < p.1) : assocGet l key = none := by
  induction l with
  | nil => rfl
  | cons p rest ih =>
    have hp : key < p.1 := h p (by simp)
    rw [assocGet_cons, if_neg (by omega)]
    exact ih fun q hq => h q (by simp [hq])

/-- A value at a key is a listed pair. -/
theorem mem_of_assocGet {l : List (Nat × α)} {key : Nat} {v : α} (h : assocGet l key = some v) : (key, v) ∈ l := by
  induction l with
  | nil => simp at h
  | cons p rest ih =>
    rw [assocGet_cons] at h
    split at h
    · next e => cases h; simp [← e]
    · exact List.mem_cons_of_mem _ (ih h)

/-- In the canonical form a listed pair is the value at its key. -/
theorem assocGet_of_mem {l : List (Nat × α)} {key : Nat} {v : α} (hl : keysRise l) (h : (key, v) ∈ l) :
    assocGet l key = some v := by
  induction l with
  | nil => simp at h
  | cons p rest ih =>
    rw [assocGet_cons]
    rcases List.mem_cons.mp h with e | h'
    · subst e; simp
    · have := (List.pairwise_cons.mp hl).1 (key, v) h'
      rw [if_neg (by simp at this; omega)]
      exact ih (List.pairwise_cons.mp hl).2 h'

@[simp] theorem assocGet_assocPut_same (l : List (Nat × α)) (key : Nat) (v : α) : assocGet (assocPut l key v) key = some v := by
  induction l with
  | nil => simp [assocPut, assocGet]
  | cons p rest ih =>
    obtain ⟨k, u⟩ := p
    simp only [assocPut]
    split
    · simp [assocGet]
    · split
      · simp [assocGet]
      · next h1 h2 => rw [assocGet_cons, if_neg (fun e => h2 e.symm), ih]

theorem assocGet_assocPut_other (l : List (Nat × α)) {key other : Nat} (v : α) (h : other ≠ key) :
    assocGet (assocPut l key v) other = assocGet l other := by
  induction l with
  | nil => simp [assocPut, assocGet, h.symm]
  | cons p rest ih =>
    obtain ⟨k, u⟩ := p
    simp only [assocPut]
    split
    · rw [assocGet_cons, if_neg h.symm]
    · split
      · next h1 h2 => rw [assocGet_cons, assocGet_cons, if_neg h.symm, if_neg (by omega)]
      · rw [assocGet_cons, assocGet_cons, ih]

/-- A pair of the map after a put is the new pair or an old one. -/
theorem mem_assocPut {l : List (Nat × α)} {key : Nat} {v : α} {p : Nat × α} (h : p ∈ assocPut l key v) :
    p = (key, v) ∨ p ∈ l := by
  induction l with
  | nil => simpa [assocPut] using h
  | cons q rest ih =>
    obtain ⟨k, u⟩ := q
    simp only [assocPut] at h
    split at h
    · simpa using h
    · split at h
      · rcases List.mem_cons.mp h with e | h'
        · exact .inl e
        · exact .inr (by simp [h'])
      · rcases List.mem_cons.mp h with e | h'
        · exact .inr (by simp [e])
        · rcases ih h' with e | e
          · exact .inl e
          · exact .inr (by simp [e])

theorem keysRise_assocPut {l : List (Nat × α)} (hl : keysRise l) (key : Nat) (v : α) : keysRise (assocPut l key v) := by
  induction l with
  | nil => simp [assocPut]
  | cons q rest ih =>
    obtain ⟨k, u⟩ := q
    obtain ⟨hk, hr⟩ := List.pairwise_cons.mp hl
    simp only [assocPut]
    split
    · next h =>
      refine List.pairwise_cons.mpr ⟨fun p hp => ?_, hl⟩
      rcases List.mem_cons.mp hp with e | e
      · simpa [e] using h
      · have := hk p e; simp at this ⊢; omega
    · split
      · next h1 h2 => exact List.pairwise_cons.mpr ⟨fun p hp => by have := hk p hp; simp at this ⊢; omega, hr⟩
      · next h1 h2 =>
        refine List.pairwise_cons.mpr ⟨fun p hp => ?_, ih hr⟩
        rcases mem_assocPut hp with e | e
        · simp [e]; omega
        · exact hk p e

theorem keysRise_filter {l : List (Nat × α)} (hl : keysRise l) (f : Nat × α → Bool) : keysRise (l.filter f) :=
  List.Pairwise.filter f hl

theorem keysRise_assocErase {l : List (Nat × α)} (hl : keysRise l) (key : Nat) : keysRise (assocErase l key) :=
  keysRise_filter hl _

/-- Filtering by the key keeps a value exactly where the key passes. -/
theorem assocGet_filter_key (l : List (Nat × α)) (f : Nat → Bool) (key : Nat) :
    assocGet (l.filter (fun p => f p.1)) key = if f key then assocGet l key else none := by
  induction l with
  | nil => simp
  | cons p rest ih =>
    obtain ⟨k, v⟩ := p
    by_cases hk : k = key
    · subst hk
      cases hf : f k <;> simp_all [assocGet_cons]
    · cases hf : f k <;> simp_all [assocGet_cons]

@[simp] theorem assocGet_assocErase_same (l : List (Nat × α)) (key : Nat) : assocGet (assocErase l key) key = none := by
  have := assocGet_filter_key l (fun k => k != key) key
  simpa [assocErase] using this

/-! ### The external memory -/

@[simp] theorem Memory.readByte_writeByte_same (m : Memory) (a : Word) (b : Byte) : (m.writeByte a b).readByte a = some b := by
  simp [Memory.readByte, Memory.writeByte]

theorem Memory.readByte_writeByte_other (m : Memory) {a c : Word} (b : Byte) (h : c ≠ a) :
    (m.writeByte a b).readByte c = m.readByte c :=
  assocGet_assocPut_other m b fun e => h (BitVec.eq_of_toNat_eq e)

theorem Memory.wf_writeByte {m : Memory} (h : m.wf) (a : Word) (b : Byte) : (m.writeByte a b).wf :=
  ⟨keysRise_assocPut h.1 _ _, fun c hc => by
    rcases mem_assocPut hc with e | e
    · rw [e]; exact a.isLt
    · exact h.2 c e⟩

theorem Memory.wf_writeBytes {m : Memory} (h : m.wf) (a : Word) (bs : List Byte) : (m.writeBytes a bs).wf := by
  induction bs generalizing m a with
  | nil => exact h
  | cons b rest ih => exact ih (Memory.wf_writeByte h a b) _

theorem reset_mem_wf : State.reset.mem.wf := by decide

/-! ### The translation cache -/

@[simp] theorem State.lookup_fill_same (s : State) (k : Word) (e : Entry) : (s.fill k e).lookup k = some e := by
  simp [State.lookup]

theorem State.lookup_fill_other (s : State) {k k' : Word} (e : Entry) (h : k' ≠ k) : (s.fill k e).lookup k' = s.lookup k' :=
  assocGet_assocPut_other s.cache e fun h' => h (BitVec.eq_of_toNat_eq h')

theorem State.lookup_invalidateRange (s : State) (lo hi : Int) (k : Word) :
    (s.invalidateRange lo hi).lookup k = if keyOverlaps k.toNat lo hi then none else s.lookup k := by
  have := assocGet_filter_key s.cache (fun n => !keyOverlaps n lo hi) k.toNat
  simp only [State.lookup, State.invalidateRange_cache, this]
  cases keyOverlaps k.toNat lo hi <;> simp

theorem State.cacheWf_fill {s : State} (h : s.cacheWf) (k : Word) (e : Entry) : (s.fill k e).cacheWf :=
  ⟨keysRise_assocPut h.1 _ _, fun p hp => by
    rcases mem_assocPut hp with e' | e'
    · rw [e']; exact k.isLt
    · exact h.2 p e'⟩

theorem State.cacheWf_invalidateRange {s : State} (h : s.cacheWf) (lo hi : Int) : (s.invalidateRange lo hi).cacheWf :=
  ⟨keysRise_filter h.1 _, fun p hp => h.2 p (List.mem_of_mem_filter hp)⟩

end Sys2Proof.Machine
end

