-- ==== Sys2Proof/Laws/Encode.lean ====
section
/-! SUPPORT. The fields the decoder extracts from an encoded word, for each of the encoder's formats (30_encoding.md R44,
40_decoder.md R64), and the bytes of a word. -/

namespace Sys2Proof

variable (p funct : BitVec 6) (rs rt rd sa : BitVec 5) (imm : Imm16) (t : BitVec 26) (v : Word)

/-- A SPECIAL word has the group format with primary 0. -/
theorem encodeSpecial_eq_encodeGroup : encodeSpecial rs rt rd sa funct = encodeGroup 0#6 rs rt rd sa funct := rfl

@[simp] theorem encodeGroup_primary : (encodeGroup p rs rt rd sa funct).extractLsb' 26 6 = p := by
  ext i hi; simp [encodeGroup]; grind

@[simp] theorem encodeGroup_rs : (encodeGroup p rs rt rd sa funct).extractLsb' 21 5 = rs := by
  ext i hi; simp [encodeGroup]; grind

@[simp] theorem encodeGroup_rt : (encodeGroup p rs rt rd sa funct).extractLsb' 16 5 = rt := by
  ext i hi; simp [encodeGroup]; grind

@[simp] theorem encodeGroup_rd : (encodeGroup p rs rt rd sa funct).extractLsb' 11 5 = rd := by
  ext i hi; simp [encodeGroup]; grind

@[simp] theorem encodeGroup_sa : (encodeGroup p rs rt rd sa funct).extractLsb' 6 5 = sa := by
  ext i hi; simp [encodeGroup]; grind

@[simp] theorem encodeGroup_funct : (encodeGroup p rs rt rd sa funct).extractLsb' 0 6 = funct := by
  ext i hi; simp [encodeGroup]; grind

@[simp] theorem encodeImm_primary : (encodeImm p rs rt imm).extractLsb' 26 6 = p := by
  ext i hi; simp [encodeImm]; grind

@[simp] theorem encodeImm_rs : (encodeImm p rs rt imm).extractLsb' 21 5 = rs := by
  ext i hi; simp [encodeImm]; grind

@[simp] theorem encodeImm_rt : (encodeImm p rs rt imm).extractLsb' 16 5 = rt := by
  ext i hi; simp [encodeImm]; grind

@[simp] theorem encodeImm_imm16 : (encodeImm p rs rt imm).extractLsb' 0 16 = imm := by
  ext i hi; simp [encodeImm]; grind

@[simp] theorem encodeJump_primary : (encodeJump p t).extractLsb' 26 6 = p := by
  ext i hi; simp [encodeJump]; grind

@[simp] theorem encodeJump_target26 : (encodeJump p t).extractLsb' 0 26 = t := by
  ext i hi; simp [encodeJump]; grind

/-- What the decoder makes of a group word. -/
theorem decodeNormal_encodeGroup :
    decodeNormal (encodeGroup p rs rt rd sa funct) v =
      { primary := p, rs := rs, rt := rt, rd := rd, sa := sa, funct := funct
        secondary := if p = 0#6 then some funct else none
        imm16 := (encodeGroup p rs rt rd sa funct).extractLsb' 0 16
        target26 := (encodeGroup p rs rt rd sa funct).extractLsb' 0 26
        word := encodeGroup p rs rt rd sa funct, vaddr := v } := by
  simp [decodeNormal]

/-- Concatenation as arithmetic. -/
theorem toNat_append_eq {n m : Nat} (x : BitVec n) (y : BitVec m) : (x ++ y).toNat = x.toNat * 2 ^ m + y.toNat := by
  rw [BitVec.toNat_append, ← Nat.shiftLeft_add_eq_or_of_lt y.isLt, Nat.shiftLeft_eq]

/-! ### The two grammars -/

theorem bitZero_eq (a : Word) : a.getLsbD 0 = decide (a.toNat % 2 = 1) := by
  simp only [BitVec.getLsbD, Nat.testBit_zero]

theorem decode_compressed {w : InstrWord} {a : Word} (h : a.getLsbD 0 = true) :
    decode w a = .compressedPlaceholder (w.extractLsb' 0 16) a := if_pos h

theorem decode_normal {w : InstrWord} {a : Word} (h : a.getLsbD 0 = false) : decode w a = .normal (decodeNormal w a) := by
  rw [decode, h]; rfl

theorem decodeInstr_compressed {u : Variant} {w : InstrWord} {a : Word} (h : a.getLsbD 0 = true) :
    decodeInstr u w a = .compressed (w.extractLsb' 0 16) := by
  rw [decodeInstr, decode_compressed h]; rfl

theorem decodeInstr_normal {u : Variant} {w : InstrWord} {a : Word} (h : a.getLsbD 0 = false) :
    decodeInstr u w a = nameNormal u (decodeNormal w a) := by
  rw [decodeInstr, decode_normal h]; rfl

/-- The name of a word does not depend on where it was fetched. -/
theorem nameNormal_vaddr (u : Variant) (w : InstrWord) (a b : Word) :
    nameNormal u (decodeNormal w a) = nameNormal u (decodeNormal w b) := rfl

/-! ### Every word from its own fields -/

/-- Every word has the group format of its own fields. -/
theorem encodeGroup_fields (w : InstrWord) :
    encodeGroup (w.extractLsb' 26 6) (w.extractLsb' 21 5) (w.extractLsb' 16 5) (w.extractLsb' 11 5) (w.extractLsb' 6 5)
      (w.extractLsb' 0 6) = w := by
  ext i hi; simp [encodeGroup]; grind

/-- Every word has the immediate format of its own fields. -/
theorem encodeImm_fields (w : InstrWord) :
    encodeImm (w.extractLsb' 26 6) (w.extractLsb' 21 5) (w.extractLsb' 16 5) (w.extractLsb' 0 16) = w := by
  ext i hi; simp [encodeImm]; grind

/-- Every word has the jump format of its own fields. -/
theorem encodeJump_fields (w : InstrWord) : encodeJump (w.extractLsb' 26 6) (w.extractLsb' 0 26) = w := by
  ext i hi; simp [encodeJump]; grind

/-- The four bytes of a word, assembled again in the same order, are the word (20_memory.md R29, R30). -/
theorem assembleWord_bytes (w : InstrWord) :
    assembleWord .big (w.extractLsb' 24 8) (w.extractLsb' 16 8) (w.extractLsb' 8 8) (w.extractLsb' 0 8) = w ∧
    assembleWord .little (w.extractLsb' 0 8) (w.extractLsb' 8 8) (w.extractLsb' 16 8) (w.extractLsb' 24 8) = w := by
  constructor <;> (ext i hi; simp [assembleWord]; grind)

/-- The two bytes of a halfword, assembled again in the same order, are its low 16 bits (20_memory.md R31). -/
theorem assembleHalf_bytes (w : InstrWord) :
    assembleHalf .big (w.extractLsb' 8 8) (w.extractLsb' 0 8) = (w.extractLsb' 0 16).setWidth 32 ∧
    assembleHalf .little (w.extractLsb' 0 8) (w.extractLsb' 8 8) = (w.extractLsb' 0 16).setWidth 32 := by
  constructor <;> (ext i hi; simp [assembleHalf]; grind)

end Sys2Proof
end

