-- ==== Sys2Proof/Laws/Exec.lean ====
section
/-! SUPPORT. What a cell, a row of the mapping table and an instruction can do: one specification lemma for each shared
operation, cited instead of unfolding it. -/

namespace Sys2Proof.Machine

/-! ### Executing a cell -/

@[simp] theorem executeCell_nop (s : State) : executeCell Cell.nop s = .next s := rfl

@[simp] theorem executeCell_invalid (reasons : List Reason) (s : State) :
    executeCell (Cell.invalid reasons) s = .fault (.unimplementedInstruction s.pc reasons s.endRun) := rfl

/-- If a cell's execution completes, it changed nothing or wrote one general register (42_cell_operations.md R81). -/
theorem executeCell_next {c : Cell} {s t : State} (h : executeCell c s = .next t) :
    t = s ∨ ∃ r v, t = s.writeGpr r v := by
  unfold executeCell onNone onRegRegReg onRegRegSImm onRegRegUImm onRegSImm raiseUnimplemented at h
  split at h <;> (try split at h) <;> cases h
  case h_1 => exact .inl rfl
  all_goals exact .inr ⟨_, _, rfl⟩

/-- What a well-formed cell's execution answers: the state itself, one register other than 0 written, or the condition with
non-empty reasons. -/
theorem executeCell_wf {c : Cell} (hc : c.wf = true) (s : State) :
    executeCell c s = .next s ∨ (∃ r v, r ≠ 0#5 ∧ executeCell c s = .next (s.writeGpr r v)) ∨
    (c.reasons ≠ [] ∧ executeCell c s = .fault (.unimplementedInstruction s.pc c.reasons s.endRun)) := by
  obtain ⟨op, ops, reasons⟩ := c
  unfold Cell.wf at hc
  split at hc <;> simp only [] at * <;> subst_vars
  case h_1 => exact .inl rfl
  case h_2 => exact .inr (.inr ⟨by simpa using hc, rfl⟩)
  all_goals first
    | (simp only [Bool.and_eq_true, bne_iff_ne] at hc; exact .inr (.inl ⟨_, _, by tauto, rfl⟩))
    | simp at hc

/-! ### Executing a row of the mapping table -/

theorem rowCell_illegal {d : Descriptor} {sp : OpSpec} (h : illegalReasons sp d ≠ []) (dest : RegIdx)
    (ops : List OperandBinding) : rowCell d sp dest ops = Cell.invalid (illegalReasons sp d) := by
  simp [rowCell, h]

theorem rowCell_zero {d : Descriptor} {sp : OpSpec} (h : illegalReasons sp d = []) (ops : List OperandBinding) :
    rowCell d sp 0#5 ops = Cell.nop := by
  simp [rowCell, h]

theorem rowCell_legal {d : Descriptor} {sp : OpSpec} (h : illegalReasons sp d = []) {dest : RegIdx} (hd : dest ≠ 0#5)
    (ops : List OperandBinding) : rowCell d sp dest ops = ⟨sp.op, ops, []⟩ := by
  simp [rowCell, h, hd]

/-- A row of the mapping table gives a well-formed cell where its operation on its operands is one. -/
theorem rowCell_wf (d : Descriptor) (sp : OpSpec) (dest : RegIdx) (ops : List OperandBinding)
    (h : dest ≠ 0#5 → Cell.wf ⟨sp.op, ops, []⟩ = true) : (rowCell d sp dest ops).wf = true := by
  unfold rowCell
  split
  · next hr => simpa [Cell.invalid, Cell.wf] using hr
  · split
    · rfl
    · next hd => exact h hd

/-- A row of ISA level 1 is legal on every processor (41_translator.md R73, R74). -/
theorem illegalReasons_level1 {sp : OpSpec} (h : sp.reqIsa = .l1) (d : Descriptor) : illegalReasons sp d = [] := by
  have : ¬ levelCode d.isaLevel < levelCode .l1 := by cases d.isaLevel <;> decide
  simp [illegalReasons, failsLevelRev, fails64on32, h, this]

/-- A row of ISA level 3 by the processor's level (41_translator.md R73, R74). -/
theorem illegalReasons_level3 {sp : OpSpec} (h : sp.reqIsa = .l3) (d : Descriptor) :
    illegalReasons sp d =
      match d.isaLevel with
      | .l1 | .l2 => [.isaMismatch, .width64On32]
      | .l32 => [.width64On32]
      | .l3 | .l4 | .l64 => [] := by
  obtain ⟨name, level, revision, variant⟩ := d
  cases level <;> simp [illegalReasons, failsLevelRev, fails64on32, h, levelCode, bitWidth]

/-- A row that is legal: a no-op on register 0, and otherwise the row's operation. -/
theorem executeRow_legal {sp : OpSpec} {s : State} (h : illegalReasons sp s.desc = []) (dest : RegIdx)
    (ops : List OperandBinding) :
    executeRow sp dest ops s = if dest = 0#5 then .next s else executeCell ⟨sp.op, ops, []⟩ s := by
  split
  · next hd => rw [executeRow, hd, rowCell_zero h, executeCell_nop]
  · next hd => rw [executeRow, rowCell_legal h hd]

/-- A row that is not legal raises the condition with its reasons, register 0 or not (41_translator.md R75). -/
theorem executeRow_illegal {sp : OpSpec} {s : State} (h : illegalReasons sp s.desc ≠ []) (dest : RegIdx)
    (ops : List OperandBinding) :
    executeRow sp dest ops s = .fault (.unimplementedInstruction s.pc (illegalReasons sp s.desc) s.endRun) := by
  rw [executeRow, rowCell_illegal h, executeCell_invalid]

/-- An instruction with no row raises the condition. -/
theorem executeUnimplemented_eq (s : State) :
    executeUnimplemented s = .fault (.unimplementedInstruction s.pc [.unimplemented] s.endRun) := rfl

/-! ### Immediates as operands -/

theorem sImmInBounds_imm16 (imm : Imm16) : sImmInBounds imm.toInt = true := by
  have := BitVec.toInt_lt (x := imm); have := BitVec.le_toInt (x := imm)
  simp [sImmInBounds]; omega

theorem sImmInBounds_luiValue (imm : Imm16) : sImmInBounds (luiValue imm).toInt = true := by
  have := BitVec.toInt_lt (x := luiValue imm); have := BitVec.le_toInt (x := luiValue imm)
  simp [sImmInBounds]; omega

theorem uImmInBounds_imm16 (imm : Imm16) : uImmInBounds imm.toNat = true := by
  have := imm.isLt; simp [uImmInBounds]; omega

theorem uImmInBounds_sa (sa : BitVec 5) : uImmInBounds sa.toNat = true := by
  have := sa.isLt; simp [uImmInBounds]; omega

/-- The signed scalar of an arithmetic immediate, read back as 64 bits, is its sign extension. -/
theorem ofInt_imm16 (imm : Imm16) : BitVec.ofInt 64 imm.toInt = imm.signExtend 64 := rfl

/-- The unsigned scalar of a logical immediate, read back as 64 bits, is its zero extension. -/
theorem ofNat_imm16 (imm : Imm16) : BitVec.ofNat 64 imm.toNat = imm.setWidth 64 := by
  apply BitVec.eq_of_toNat_eq; simp

/-- LUI's 32-bit value is the immediate shifted left by 16. -/
theorem luiValue_eq (imm : Imm16) : luiValue imm = imm.setWidth 32 <<< 16 := by
  ext i hi; simp [luiValue]; grind

/-! ### Translation and instructions as cells -/

/-- A row the mapping table gives binds operands that make a well-formed cell (41_translator.md R70, R80). -/
theorem opMap_wf {p : BitVec 6} {sec : Option (BitVec 6)} {v : Variant} {sp : OpSpec} (h : opMap p sec v = some sp)
    (f : Fields) (hd : sp.shape.dest f ≠ 0#5) : Cell.wf ⟨sp.op, sp.shape.bind f, []⟩ = true := by
  unfold opMap at h
  split at h <;> cases h <;>
    simp_all [specSll, specAddu, specDaddu, specAddiu, specAndi, specOri, specXori, specLui, specDaddiu, Shape.dest,
      Shape.bind, bindRdRtSa, bindRdRsRt, bindRtRsSimm, bindRtRsUimm, bindRtSimmHi, Cell.wf, sImmInBounds_imm16,
      sImmInBounds_luiValue, uImmInBounds_imm16, uImmInBounds_sa]

/-- An instruction is the execution of one well-formed cell, fixed by the instruction and the descriptor. -/
theorem exec_eq_executeCell (i : Instr) (d : Descriptor) :
    ∃ c : Cell, c.wf = true ∧ ∀ s : State, s.desc = d → exec i s = executeCell c s := by
  have row : ∀ (sp : OpSpec) (dest : RegIdx) (ops : List OperandBinding),
      (dest ≠ 0#5 → Cell.wf ⟨sp.op, ops, []⟩ = true) →
      ∃ c : Cell, c.wf = true ∧ ∀ s : State, s.desc = d → executeRow sp dest ops s = executeCell c s := fun sp dest ops h =>
    ⟨_, rowCell_wf d sp dest ops h, fun s hs => by rw [executeRow, hs]⟩
  cases i with
  | sll rs rt rd sa => exact row specSll rd _ fun h => by simp [specSll, bindRdRtSa, Cell.wf, h, uImmInBounds_sa]
  | addu rs rt rd sa => exact row specAddu rd _ fun h => by simp [specAddu, bindRdRsRt, Cell.wf, h]
  | daddu rs rt rd sa => exact row specDaddu rd _ fun h => by simp [specDaddu, bindRdRsRt, Cell.wf, h]
  | addiu rs rt imm => exact row specAddiu rt _ fun h => by simp [specAddiu, bindRtRsSimm, Cell.wf, h, sImmInBounds_imm16]
  | daddiu rs rt imm => exact row specDaddiu rt _ fun h => by simp [specDaddiu, bindRtRsSimm, Cell.wf, h, sImmInBounds_imm16]
  | andi rs rt imm => exact row specAndi rt _ fun h => by simp [specAndi, bindRtRsUimm, Cell.wf, h, uImmInBounds_imm16]
  | ori rs rt imm => exact row specOri rt _ fun h => by simp [specOri, bindRtRsUimm, Cell.wf, h, uImmInBounds_imm16]
  | xori rs rt imm => exact row specXori rt _ fun h => by simp [specXori, bindRtRsUimm, Cell.wf, h, uImmInBounds_imm16]
  | lui rs rt imm => exact row specLui rt _ fun h => by simp [specLui, bindRtSimmHi, Cell.wf, h, sImmInBounds_luiValue]
  | nop => exact row specSll 0#5 _ fun h => absurd rfl h
  | ssnop => exact row specSll 0#5 _ fun h => absurd rfl h
  | ehb => exact row specSll 0#5 _ fun h => absurd rfl h
  | zeroDest w =>
    simp only [exec, execZeroDest, translateClass, decodeNormal]
    cases hm : opMap (w.extractLsb' 26 6)
        (if w.extractLsb' 26 6 = 0#6 then some (w.extractLsb' 0 6) else none) d.variant with
    | none => exact ⟨Cell.invalid [.unimplemented], rfl, fun s hs => by simp only [hs, hm]⟩
    | some sp =>
      exact ⟨_, rowCell_wf d sp (sp.shape.dest (decodeNormal w 0)) (sp.shape.bind (decodeNormal w 0)) (opMap_wf hm _),
        fun s hs => by simp only [hs, hm]; rfl⟩
  | _ => exact ⟨Cell.invalid [.unimplemented], rfl, fun _ _ => rfl⟩

end Sys2Proof.Machine
end

