-- ==== Sys2Proof/Laws/PerInstr.lean ====
section
/-! SUPPORT. Per instruction: the encoder against the mask and match of the instruction's row of spec/opcode_table.json, copied
from the table. -/

namespace Sys2Proof.Laws.TableRow

/-- The row's `mask`. -/
def mask : Instr → InstrWord
  | .sll _ _ _ _ | .movci _ _ _ _ | .srl _ _ _ _ | .sra _ _ _ _ | .sllv _ _ _ _ | .srlv _ _ _ _ | .srav _ _ _ _
  | .jr _ _ _ _ | .jalr _ _ _ _ | .movz _ _ _ _ | .movn _ _ _ _ | .syscall _ _ _ _ | .brk _ _ _ _ | .sync _ _ _ _
  | .mfhi _ _ _ _ | .mthi _ _ _ _ | .mflo _ _ _ _ | .mtlo _ _ _ _ | .dsllv _ _ _ _ | .dsrlv _ _ _ _ | .dsrav _ _ _ _
  | .mult _ _ _ _ | .multu _ _ _ _ | .div _ _ _ _ | .divu _ _ _ _ | .dmult _ _ _ _ | .dmultu _ _ _ _ | .ddiv _ _ _ _
  | .ddivu _ _ _ _ | .add _ _ _ _ | .addu _ _ _ _ | .sub _ _ _ _ | .subu _ _ _ _ | .and _ _ _ _ | .or _ _ _ _
  | .xor _ _ _ _ | .nor _ _ _ _ | .slt _ _ _ _ | .sltu _ _ _ _ | .dadd _ _ _ _ | .daddu _ _ _ _ | .dsub _ _ _ _
  | .dsubu _ _ _ _ | .tge _ _ _ _ | .tgeu _ _ _ _ | .tlt _ _ _ _ | .tltu _ _ _ _ | .teq _ _ _ _ | .tne _ _ _ _
  | .dsll _ _ _ _ | .dsrl _ _ _ _ | .dsra _ _ _ _ | .dsll32 _ _ _ _ | .dsrl32 _ _ _ _ | .dsra32 _ _ _ _
  | .mfsaR5900 _ _ _ _ | .mtsaR5900 _ _ _ _ => 0xFC00003F#32
  | .bltz _ _ | .bgez _ _ | .bltzl _ _ | .bgezl _ _ | .tgei _ _ | .tgeiu _ _ | .tlti _ _ | .tltiu _ _ | .teqi _ _
  | .tnei _ _ | .bltzal _ _ | .bgezal _ _ | .bltzall _ _ | .bgezall _ _ | .synci _ _ | .mtsabR5900 _ _
  | .mtsahR5900 _ _ => 0xFC1F0000#32
  | .j _ | .jal _ | .beq _ _ _ | .bne _ _ _ | .blez _ _ _ | .bgtz _ _ _ | .addi _ _ _ | .addiu _ _ _ | .slti _ _ _
  | .sltiu _ _ _ | .andi _ _ _ | .ori _ _ _ | .xori _ _ _ | .lui _ _ _ | .cop0 _ _ _ _ _ | .cop1 _ _ _ _ _
  | .cop2 _ _ _ _ _ | .cop1x _ _ _ _ _ | .beql _ _ _ | .bnel _ _ _ | .blezl _ _ _ | .bgtzl _ _ _ | .daddi _ _ _
  | .daddiu _ _ _ | .ldl _ _ _ | .ldr _ _ _ | .special2 _ _ _ _ _ | .jalx _ | .special3 _ _ _ _ _ | .lb _ _ _
  | .lh _ _ _ | .lwl _ _ _ | .lw _ _ _ | .lbu _ _ _ | .lhu _ _ _ | .lwr _ _ _ | .lwu _ _ _ | .sb _ _ _ | .sh _ _ _
  | .swl _ _ _ | .sw _ _ _ | .sdl _ _ _ | .sdr _ _ _ | .swr _ _ _ | .cache _ _ _ | .ll _ _ _ | .lwc1 _ _ _
  | .lwc2 _ _ _ | .pref _ _ _ | .lld _ _ _ | .ldc1 _ _ _ | .ldc2 _ _ _ | .ld _ _ _ | .sc _ _ _ | .swc1 _ _ _
  | .swc2 _ _ _ | .scd _ _ _ | .sdc1 _ _ _ | .sdc2 _ _ _ | .sd _ _ _ | .mmiR5900 _ _ _ _ _ | .lqR5900 _ _ _
  | .sqR5900 _ _ _ => 0xFC000000#32
  | .nop | .ssnop | .ehb => 0xFFFFFFFF#32
  | .zeroDest _ | .compressed _ | .unrecognized _ => 0x00000000#32
  | .b _ => 0xFFFF0000#32

/-- The row's `match`. -/
def value : Instr → InstrWord
  | .sll _ _ _ _ => 0x00000000#32
  | .movci _ _ _ _ => 0x00000001#32
  | .srl _ _ _ _ => 0x00000002#32
  | .sra _ _ _ _ => 0x00000003#32
  | .sllv _ _ _ _ => 0x00000004#32
  | .srlv _ _ _ _ => 0x00000006#32
  | .srav _ _ _ _ => 0x00000007#32
  | .jr _ _ _ _ => 0x00000008#32
  | .jalr _ _ _ _ => 0x00000009#32
  | .movz _ _ _ _ => 0x0000000A#32
  | .movn _ _ _ _ => 0x0000000B#32
  | .syscall _ _ _ _ => 0x0000000C#32
  | .brk _ _ _ _ => 0x0000000D#32
  | .sync _ _ _ _ => 0x0000000F#32
  | .mfhi _ _ _ _ => 0x00000010#32
  | .mthi _ _ _ _ => 0x00000011#32
  | .mflo _ _ _ _ => 0x00000012#32
  | .mtlo _ _ _ _ => 0x00000013#32
  | .dsllv _ _ _ _ => 0x00000014#32
  | .dsrlv _ _ _ _ => 0x00000016#32
  | .dsrav _ _ _ _ => 0x00000017#32
  | .mult _ _ _ _ => 0x00000018#32
  | .multu _ _ _ _ => 0x00000019#32
  | .div _ _ _ _ => 0x0000001A#32
  | .divu _ _ _ _ => 0x0000001B#32
  | .dmult _ _ _ _ => 0x0000001C#32
  | .dmultu _ _ _ _ => 0x0000001D#32
  | .ddiv _ _ _ _ => 0x0000001E#32
  | .ddivu _ _ _ _ => 0x0000001F#32
  | .add _ _ _ _ => 0x00000020#32
  | .addu _ _ _ _ => 0x00000021#32
  | .sub _ _ _ _ => 0x00000022#32
  | .subu _ _ _ _ => 0x00000023#32
  | .and _ _ _ _ => 0x00000024#32
  | .or _ _ _ _ => 0x00000025#32
  | .xor _ _ _ _ => 0x00000026#32
  | .nor _ _ _ _ => 0x00000027#32
  | .slt _ _ _ _ => 0x0000002A#32
  | .sltu _ _ _ _ => 0x0000002B#32
  | .dadd _ _ _ _ => 0x0000002C#32
  | .daddu _ _ _ _ => 0x0000002D#32
  | .dsub _ _ _ _ => 0x0000002E#32
  | .dsubu _ _ _ _ => 0x0000002F#32
  | .tge _ _ _ _ => 0x00000030#32
  | .tgeu _ _ _ _ => 0x00000031#32
  | .tlt _ _ _ _ => 0x00000032#32
  | .tltu _ _ _ _ => 0x00000033#32
  | .teq _ _ _ _ => 0x00000034#32
  | .tne _ _ _ _ => 0x00000036#32
  | .dsll _ _ _ _ => 0x00000038#32
  | .dsrl _ _ _ _ => 0x0000003A#32
  | .dsra _ _ _ _ => 0x0000003B#32
  | .dsll32 _ _ _ _ => 0x0000003C#32
  | .dsrl32 _ _ _ _ => 0x0000003E#32
  | .dsra32 _ _ _ _ => 0x0000003F#32
  | .bltz _ _ => 0x04000000#32
  | .bgez _ _ => 0x04010000#32
  | .bltzl _ _ => 0x04020000#32
  | .bgezl _ _ => 0x04030000#32
  | .tgei _ _ => 0x04080000#32
  | .tgeiu _ _ => 0x04090000#32
  | .tlti _ _ => 0x040A0000#32
  | .tltiu _ _ => 0x040B0000#32
  | .teqi _ _ => 0x040C0000#32
  | .tnei _ _ => 0x040E0000#32
  | .bltzal _ _ => 0x04100000#32
  | .bgezal _ _ => 0x04110000#32
  | .bltzall _ _ => 0x04120000#32
  | .bgezall _ _ => 0x04130000#32
  | .synci _ _ => 0x041F0000#32
  | .j _ => 0x08000000#32
  | .jal _ => 0x0C000000#32
  | .beq _ _ _ => 0x10000000#32
  | .bne _ _ _ => 0x14000000#32
  | .blez _ _ _ => 0x18000000#32
  | .bgtz _ _ _ => 0x1C000000#32
  | .addi _ _ _ => 0x20000000#32
  | .addiu _ _ _ => 0x24000000#32
  | .slti _ _ _ => 0x28000000#32
  | .sltiu _ _ _ => 0x2C000000#32
  | .andi _ _ _ => 0x30000000#32
  | .ori _ _ _ => 0x34000000#32
  | .xori _ _ _ => 0x38000000#32
  | .lui _ _ _ => 0x3C000000#32
  | .cop0 _ _ _ _ _ => 0x40000000#32
  | .cop1 _ _ _ _ _ => 0x44000000#32
  | .cop2 _ _ _ _ _ => 0x48000000#32
  | .cop1x _ _ _ _ _ => 0x4C000000#32
  | .beql _ _ _ => 0x50000000#32
  | .bnel _ _ _ => 0x54000000#32
  | .blezl _ _ _ => 0x58000000#32
  | .bgtzl _ _ _ => 0x5C000000#32
  | .daddi _ _ _ => 0x60000000#32
  | .daddiu _ _ _ => 0x64000000#32
  | .ldl _ _ _ => 0x68000000#32
  | .ldr _ _ _ => 0x6C000000#32
  | .special2 _ _ _ _ _ => 0x70000000#32
  | .jalx _ => 0x74000000#32
  | .special3 _ _ _ _ _ => 0x7C000000#32
  | .lb _ _ _ => 0x80000000#32
  | .lh _ _ _ => 0x84000000#32
  | .lwl _ _ _ => 0x88000000#32
  | .lw _ _ _ => 0x8C000000#32
  | .lbu _ _ _ => 0x90000000#32
  | .lhu _ _ _ => 0x94000000#32
  | .lwr _ _ _ => 0x98000000#32
  | .lwu _ _ _ => 0x9C000000#32
  | .sb _ _ _ => 0xA0000000#32
  | .sh _ _ _ => 0xA4000000#32
  | .swl _ _ _ => 0xA8000000#32
  | .sw _ _ _ => 0xAC000000#32
  | .sdl _ _ _ => 0xB0000000#32
  | .sdr _ _ _ => 0xB4000000#32
  | .swr _ _ _ => 0xB8000000#32
  | .cache _ _ _ => 0xBC000000#32
  | .ll _ _ _ => 0xC0000000#32
  | .lwc1 _ _ _ => 0xC4000000#32
  | .lwc2 _ _ _ => 0xC8000000#32
  | .pref _ _ _ => 0xCC000000#32
  | .lld _ _ _ => 0xD0000000#32
  | .ldc1 _ _ _ => 0xD4000000#32
  | .ldc2 _ _ _ => 0xD8000000#32
  | .ld _ _ _ => 0xDC000000#32
  | .sc _ _ _ => 0xE0000000#32
  | .swc1 _ _ _ => 0xE4000000#32
  | .swc2 _ _ _ => 0xE8000000#32
  | .scd _ _ _ => 0xF0000000#32
  | .sdc1 _ _ _ => 0xF4000000#32
  | .sdc2 _ _ _ => 0xF8000000#32
  | .sd _ _ _ => 0xFC000000#32
  | .mmiR5900 _ _ _ _ _ => 0x70000000#32
  | .lqR5900 _ _ _ => 0x78000000#32
  | .sqR5900 _ _ _ => 0x7C000000#32
  | .mfsaR5900 _ _ _ _ => 0x00000028#32
  | .mtsaR5900 _ _ _ _ => 0x00000029#32
  | .mtsabR5900 _ _ => 0x04180000#32
  | .mtsahR5900 _ _ => 0x04190000#32
  | .nop => 0x00000000#32
  | .ssnop => 0x00000040#32
  | .ehb => 0x000000C0#32
  | .zeroDest _ => 0x00000000#32
  | .b _ => 0x10000000#32
  | .compressed _ => 0x00000000#32
  | .unrecognized _ => 0x00000000#32

/-- The encoded word has the row's fixed bits. -/
def Statement (i : Instr) : Prop := encode i &&& mask i = value i

/-! ### The fixed bits of each format -/

theorem special_fixed (rs rt rd : RegIdx) (sa : BitVec 5) (f : BitVec 6) :
    encodeSpecial rs rt rd sa f &&& 0xFC00003F#32 = f.setWidth 32 := by
  ext i hi; simp [encodeSpecial]; interval_cases i <;> simp <;> grind

theorem imm_fixed (p : BitVec 6) (rs rt : RegIdx) (imm : Imm16) :
    encodeImm p rs rt imm &&& 0xFC000000#32 = p ++ 0#26 := by
  ext i hi; simp [encodeImm]; interval_cases i <;> simp <;> grind

theorem regimm_fixed (p : BitVec 6) (rs rt : RegIdx) (imm : Imm16) :
    encodeImm p rs rt imm &&& 0xFC1F0000#32 = p ++ 0#5 ++ rt ++ 0#16 := by
  ext i hi; simp [encodeImm]; interval_cases i <;> simp <;> grind

theorem idiom_fixed (p : BitVec 6) (rs rt : RegIdx) (imm : Imm16) :
    encodeImm p rs rt imm &&& 0xFFFF0000#32 = p ++ rs ++ rt ++ 0#16 := by
  ext i hi; simp [encodeImm]; interval_cases i <;> simp <;> grind

theorem jump_fixed (p : BitVec 6) (t : BitVec 26) : encodeJump p t &&& 0xFC000000#32 = p ++ 0#26 := by
  ext i hi; simp [encodeJump]; interval_cases i <;> simp <;> grind

theorem group_fixed (p : BitVec 6) (rs rt rd : RegIdx) (sa : BitVec 5) (f : BitVec 6) :
    encodeGroup p rs rt rd sa f &&& 0xFC000000#32 = p ++ 0#26 := by
  ext i hi; simp [encodeGroup]; interval_cases i <;> simp <;> grind

/-! ### One lemma per instruction -/

theorem sll (rs rt rd : RegIdx) (sa : BitVec 5) : Statement (.sll rs rt rd sa) := (special_fixed rs rt rd sa _).trans rfl
theorem movci (rs rt rd : RegIdx) (sa : BitVec 5) : Statement (.movci rs rt rd sa) := (special_fixed rs rt rd sa _).trans rfl
theorem srl (rs rt rd : RegIdx) (sa : BitVec 5) : Statement (.srl rs rt rd sa) := (special_fixed rs rt rd sa _).trans rfl
theorem sra (rs rt rd : RegIdx) (sa : BitVec 5) : Statement (.sra rs rt rd sa) := (special_fixed rs rt rd sa _).trans rfl
theorem sllv (rs rt rd : RegIdx) (sa : BitVec 5) : Statement (.sllv rs rt rd sa) := (special_fixed rs rt rd sa _).trans rfl
theorem srlv (rs rt rd : RegIdx) (sa : BitVec 5) : Statement (.srlv rs rt rd sa) := (special_fixed rs rt rd sa _).trans rfl
theorem srav (rs rt rd : RegIdx) (sa : BitVec 5) : Statement (.srav rs rt rd sa) := (special_fixed rs rt rd sa _).trans rfl
theorem jr (rs rt rd : RegIdx) (sa : BitVec 5) : Statement (.jr rs rt rd sa) := (special_fixed rs rt rd sa _).trans rfl
theorem jalr (rs rt rd : RegIdx) (sa : BitVec 5) : Statement (.jalr rs rt rd sa) := (special_fixed rs rt rd sa _).trans rfl
theorem movz (rs rt rd : RegIdx) (sa : BitVec 5) : Statement (.movz rs rt rd sa) := (special_fixed rs rt rd sa _).trans rfl
theorem movn (rs rt rd : RegIdx) (sa : BitVec 5) : Statement (.movn rs rt rd sa) := (special_fixed rs rt rd sa _).trans rfl
theorem syscall (rs rt rd : RegIdx) (sa : BitVec 5) : Statement (.syscall rs rt rd sa) := (special_fixed rs rt rd sa _).trans rfl
theorem brk (rs rt rd : RegIdx) (sa : BitVec 5) : Statement (.brk rs rt rd sa) := (special_fixed rs rt rd sa _).trans rfl
theorem sync (rs rt rd : RegIdx) (sa : BitVec 5) : Statement (.sync rs rt rd sa) := (special_fixed rs rt rd sa _).trans rfl
theorem mfhi (rs rt rd : RegIdx) (sa : BitVec 5) : Statement (.mfhi rs rt rd sa) := (special_fixed rs rt rd sa _).trans rfl
theorem mthi (rs rt rd : RegIdx) (sa : BitVec 5) : Statement (.mthi rs rt rd sa) := (special_fixed rs rt rd sa _).trans rfl
theorem mflo (rs rt rd : RegIdx) (sa : BitVec 5) : Statement (.mflo rs rt rd sa) := (special_fixed rs rt rd sa _).trans rfl
theorem mtlo (rs rt rd : RegIdx) (sa : BitVec 5) : Statement (.mtlo rs rt rd sa) := (special_fixed rs rt rd sa _).trans rfl
theorem dsllv (rs rt rd : RegIdx) (sa : BitVec 5) : Statement (.dsllv rs rt rd sa) := (special_fixed rs rt rd sa _).trans rfl
theorem dsrlv (rs rt rd : RegIdx) (sa : BitVec 5) : Statement (.dsrlv rs rt rd sa) := (special_fixed rs rt rd sa _).trans rfl
theorem dsrav (rs rt rd : RegIdx) (sa : BitVec 5) : Statement (.dsrav rs rt rd sa) := (special_fixed rs rt rd sa _).trans rfl
theorem mult (rs rt rd : RegIdx) (sa : BitVec 5) : Statement (.mult rs rt rd sa) := (special_fixed rs rt rd sa _).trans rfl
theorem multu (rs rt rd : RegIdx) (sa : BitVec 5) : Statement (.multu rs rt rd sa) := (special_fixed rs rt rd sa _).trans rfl
theorem div (rs rt rd : RegIdx) (sa : BitVec 5) : Statement (.div rs rt rd sa) := (special_fixed rs rt rd sa _).trans rfl
theorem divu (rs rt rd : RegIdx) (sa : BitVec 5) : Statement (.divu rs rt rd sa) := (special_fixed rs rt rd sa _).trans rfl
theorem dmult (rs rt rd : RegIdx) (sa : BitVec 5) : Statement (.dmult rs rt rd sa) := (special_fixed rs rt rd sa _).trans rfl
theorem dmultu (rs rt rd : RegIdx) (sa : BitVec 5) : Statement (.dmultu rs rt rd sa) := (special_fixed rs rt rd sa _).trans rfl
theorem ddiv (rs rt rd : RegIdx) (sa : BitVec 5) : Statement (.ddiv rs rt rd sa) := (special_fixed rs rt rd sa _).trans rfl
theorem ddivu (rs rt rd : RegIdx) (sa : BitVec 5) : Statement (.ddivu rs rt rd sa) := (special_fixed rs rt rd sa _).trans rfl
theorem add (rs rt rd : RegIdx) (sa : BitVec 5) : Statement (.add rs rt rd sa) := (special_fixed rs rt rd sa _).trans rfl
theorem addu (rs rt rd : RegIdx) (sa : BitVec 5) : Statement (.addu rs rt rd sa) := (special_fixed rs rt rd sa _).trans rfl
theorem sub (rs rt rd : RegIdx) (sa : BitVec 5) : Statement (.sub rs rt rd sa) := (special_fixed rs rt rd sa _).trans rfl
theorem subu (rs rt rd : RegIdx) (sa : BitVec 5) : Statement (.subu rs rt rd sa) := (special_fixed rs rt rd sa _).trans rfl
theorem and (rs rt rd : RegIdx) (sa : BitVec 5) : Statement (.and rs rt rd sa) := (special_fixed rs rt rd sa _).trans rfl
theorem or (rs rt rd : RegIdx) (sa : BitVec 5) : Statement (.or rs rt rd sa) := (special_fixed rs rt rd sa _).trans rfl
theorem xor (rs rt rd : RegIdx) (sa : BitVec 5) : Statement (.xor rs rt rd sa) := (special_fixed rs rt rd sa _).trans rfl
theorem nor (rs rt rd : RegIdx) (sa : BitVec 5) : Statement (.nor rs rt rd sa) := (special_fixed rs rt rd sa _).trans rfl
theorem slt (rs rt rd : RegIdx) (sa : BitVec 5) : Statement (.slt rs rt rd sa) := (special_fixed rs rt rd sa _).trans rfl
theorem sltu (rs rt rd : RegIdx) (sa : BitVec 5) : Statement (.sltu rs rt rd sa) := (special_fixed rs rt rd sa _).trans rfl
theorem dadd (rs rt rd : RegIdx) (sa : BitVec 5) : Statement (.dadd rs rt rd sa) := (special_fixed rs rt rd sa _).trans rfl
theorem daddu (rs rt rd : RegIdx) (sa : BitVec 5) : Statement (.daddu rs rt rd sa) := (special_fixed rs rt rd sa _).trans rfl
theorem dsub (rs rt rd : RegIdx) (sa : BitVec 5) : Statement (.dsub rs rt rd sa) := (special_fixed rs rt rd sa _).trans rfl
theorem dsubu (rs rt rd : RegIdx) (sa : BitVec 5) : Statement (.dsubu rs rt rd sa) := (special_fixed rs rt rd sa _).trans rfl
theorem tge (rs rt rd : RegIdx) (sa : BitVec 5) : Statement (.tge rs rt rd sa) := (special_fixed rs rt rd sa _).trans rfl
theorem tgeu (rs rt rd : RegIdx) (sa : BitVec 5) : Statement (.tgeu rs rt rd sa) := (special_fixed rs rt rd sa _).trans rfl
theorem tlt (rs rt rd : RegIdx) (sa : BitVec 5) : Statement (.tlt rs rt rd sa) := (special_fixed rs rt rd sa _).trans rfl
theorem tltu (rs rt rd : RegIdx) (sa : BitVec 5) : Statement (.tltu rs rt rd sa) := (special_fixed rs rt rd sa _).trans rfl
theorem teq (rs rt rd : RegIdx) (sa : BitVec 5) : Statement (.teq rs rt rd sa) := (special_fixed rs rt rd sa _).trans rfl
theorem tne (rs rt rd : RegIdx) (sa : BitVec 5) : Statement (.tne rs rt rd sa) := (special_fixed rs rt rd sa _).trans rfl
theorem dsll (rs rt rd : RegIdx) (sa : BitVec 5) : Statement (.dsll rs rt rd sa) := (special_fixed rs rt rd sa _).trans rfl
theorem dsrl (rs rt rd : RegIdx) (sa : BitVec 5) : Statement (.dsrl rs rt rd sa) := (special_fixed rs rt rd sa _).trans rfl
theorem dsra (rs rt rd : RegIdx) (sa : BitVec 5) : Statement (.dsra rs rt rd sa) := (special_fixed rs rt rd sa _).trans rfl
theorem dsll32 (rs rt rd : RegIdx) (sa : BitVec 5) : Statement (.dsll32 rs rt rd sa) := (special_fixed rs rt rd sa _).trans rfl
theorem dsrl32 (rs rt rd : RegIdx) (sa : BitVec 5) : Statement (.dsrl32 rs rt rd sa) := (special_fixed rs rt rd sa _).trans rfl
theorem dsra32 (rs rt rd : RegIdx) (sa : BitVec 5) : Statement (.dsra32 rs rt rd sa) := (special_fixed rs rt rd sa _).trans rfl
theorem bltz (rs : RegIdx) (imm : Imm16) : Statement (.bltz rs imm) := (regimm_fixed _ rs _ imm).trans rfl
theorem bgez (rs : RegIdx) (imm : Imm16) : Statement (.bgez rs imm) := (regimm_fixed _ rs _ imm).trans rfl
theorem bltzl (rs : RegIdx) (imm : Imm16) : Statement (.bltzl rs imm) := (regimm_fixed _ rs _ imm).trans rfl
theorem bgezl (rs : RegIdx) (imm : Imm16) : Statement (.bgezl rs imm) := (regimm_fixed _ rs _ imm).trans rfl
theorem tgei (rs : RegIdx) (imm : Imm16) : Statement (.tgei rs imm) := (regimm_fixed _ rs _ imm).trans rfl
theorem tgeiu (rs : RegIdx) (imm : Imm16) : Statement (.tgeiu rs imm) := (regimm_fixed _ rs _ imm).trans rfl
theorem tlti (rs : RegIdx) (imm : Imm16) : Statement (.tlti rs imm) := (regimm_fixed _ rs _ imm).trans rfl
theorem tltiu (rs : RegIdx) (imm : Imm16) : Statement (.tltiu rs imm) := (regimm_fixed _ rs _ imm).trans rfl
theorem teqi (rs : RegIdx) (imm : Imm16) : Statement (.teqi rs imm) := (regimm_fixed _ rs _ imm).trans rfl
theorem tnei (rs : RegIdx) (imm : Imm16) : Statement (.tnei rs imm) := (regimm_fixed _ rs _ imm).trans rfl
theorem bltzal (rs : RegIdx) (imm : Imm16) : Statement (.bltzal rs imm) := (regimm_fixed _ rs _ imm).trans rfl
theorem bgezal (rs : RegIdx) (imm : Imm16) : Statement (.bgezal rs imm) := (regimm_fixed _ rs _ imm).trans rfl
theorem bltzall (rs : RegIdx) (imm : Imm16) : Statement (.bltzall rs imm) := (regimm_fixed _ rs _ imm).trans rfl
theorem bgezall (rs : RegIdx) (imm : Imm16) : Statement (.bgezall rs imm) := (regimm_fixed _ rs _ imm).trans rfl
theorem synci (rs : RegIdx) (imm : Imm16) : Statement (.synci rs imm) := (regimm_fixed _ rs _ imm).trans rfl
theorem j (target : BitVec 26) : Statement (.j target) := (jump_fixed _ target).trans rfl
theorem jal (target : BitVec 26) : Statement (.jal target) := (jump_fixed _ target).trans rfl
theorem beq (rs rt : RegIdx) (imm : Imm16) : Statement (.beq rs rt imm) := (imm_fixed _ rs rt imm).trans rfl
theorem bne (rs rt : RegIdx) (imm : Imm16) : Statement (.bne rs rt imm) := (imm_fixed _ rs rt imm).trans rfl
theorem blez (rs rt : RegIdx) (imm : Imm16) : Statement (.blez rs rt imm) := (imm_fixed _ rs rt imm).trans rfl
theorem bgtz (rs rt : RegIdx) (imm : Imm16) : Statement (.bgtz rs rt imm) := (imm_fixed _ rs rt imm).trans rfl
theorem addi (rs rt : RegIdx) (imm : Imm16) : Statement (.addi rs rt imm) := (imm_fixed _ rs rt imm).trans rfl
theorem addiu (rs rt : RegIdx) (imm : Imm16) : Statement (.addiu rs rt imm) := (imm_fixed _ rs rt imm).trans rfl
theorem slti (rs rt : RegIdx) (imm : Imm16) : Statement (.slti rs rt imm) := (imm_fixed _ rs rt imm).trans rfl
theorem sltiu (rs rt : RegIdx) (imm : Imm16) : Statement (.sltiu rs rt imm) := (imm_fixed _ rs rt imm).trans rfl
theorem andi (rs rt : RegIdx) (imm : Imm16) : Statement (.andi rs rt imm) := (imm_fixed _ rs rt imm).trans rfl
theorem ori (rs rt : RegIdx) (imm : Imm16) : Statement (.ori rs rt imm) := (imm_fixed _ rs rt imm).trans rfl
theorem xori (rs rt : RegIdx) (imm : Imm16) : Statement (.xori rs rt imm) := (imm_fixed _ rs rt imm).trans rfl
theorem lui (rs rt : RegIdx) (imm : Imm16) : Statement (.lui rs rt imm) := (imm_fixed _ rs rt imm).trans rfl
theorem cop0 (rs rt rd : RegIdx) (sa : BitVec 5) (funct : BitVec 6) : Statement (.cop0 rs rt rd sa funct) := (group_fixed _ rs rt rd sa funct).trans rfl
theorem cop1 (rs rt rd : RegIdx) (sa : BitVec 5) (funct : BitVec 6) : Statement (.cop1 rs rt rd sa funct) := (group_fixed _ rs rt rd sa funct).trans rfl
theorem cop2 (rs rt rd : RegIdx) (sa : BitVec 5) (funct : BitVec 6) : Statement (.cop2 rs rt rd sa funct) := (group_fixed _ rs rt rd sa funct).trans rfl
theorem cop1x (rs rt rd : RegIdx) (sa : BitVec 5) (funct : BitVec 6) : Statement (.cop1x rs rt rd sa funct) := (group_fixed _ rs rt rd sa funct).trans rfl
theorem beql (rs rt : RegIdx) (imm : Imm16) : Statement (.beql rs rt imm) := (imm_fixed _ rs rt imm).trans rfl
theorem bnel (rs rt : RegIdx) (imm : Imm16) : Statement (.bnel rs rt imm) := (imm_fixed _ rs rt imm).trans rfl
theorem blezl (rs rt : RegIdx) (imm : Imm16) : Statement (.blezl rs rt imm) := (imm_fixed _ rs rt imm).trans rfl
theorem bgtzl (rs rt : RegIdx) (imm : Imm16) : Statement (.bgtzl rs rt imm) := (imm_fixed _ rs rt imm).trans rfl
theorem daddi (rs rt : RegIdx) (imm : Imm16) : Statement (.daddi rs rt imm) := (imm_fixed _ rs rt imm).trans rfl
theorem daddiu (rs rt : RegIdx) (imm : Imm16) : Statement (.daddiu rs rt imm) := (imm_fixed _ rs rt imm).trans rfl
theorem ldl (rs rt : RegIdx) (imm : Imm16) : Statement (.ldl rs rt imm) := (imm_fixed _ rs rt imm).trans rfl
theorem ldr (rs rt : RegIdx) (imm : Imm16) : Statement (.ldr rs rt imm) := (imm_fixed _ rs rt imm).trans rfl
theorem special2 (rs rt rd : RegIdx) (sa : BitVec 5) (funct : BitVec 6) : Statement (.special2 rs rt rd sa funct) := (group_fixed _ rs rt rd sa funct).trans rfl
theorem jalx (target : BitVec 26) : Statement (.jalx target) := (jump_fixed _ target).trans rfl
theorem special3 (rs rt rd : RegIdx) (sa : BitVec 5) (funct : BitVec 6) : Statement (.special3 rs rt rd sa funct) := (group_fixed _ rs rt rd sa funct).trans rfl
theorem lb (rs rt : RegIdx) (imm : Imm16) : Statement (.lb rs rt imm) := (imm_fixed _ rs rt imm).trans rfl
theorem lh (rs rt : RegIdx) (imm : Imm16) : Statement (.lh rs rt imm) := (imm_fixed _ rs rt imm).trans rfl
theorem lwl (rs rt : RegIdx) (imm : Imm16) : Statement (.lwl rs rt imm) := (imm_fixed _ rs rt imm).trans rfl
theorem lw (rs rt : RegIdx) (imm : Imm16) : Statement (.lw rs rt imm) := (imm_fixed _ rs rt imm).trans rfl
theorem lbu (rs rt : RegIdx) (imm : Imm16) : Statement (.lbu rs rt imm) := (imm_fixed _ rs rt imm).trans rfl
theorem lhu (rs rt : RegIdx) (imm : Imm16) : Statement (.lhu rs rt imm) := (imm_fixed _ rs rt imm).trans rfl
theorem lwr (rs rt : RegIdx) (imm : Imm16) : Statement (.lwr rs rt imm) := (imm_fixed _ rs rt imm).trans rfl
theorem lwu (rs rt : RegIdx) (imm : Imm16) : Statement (.lwu rs rt imm) := (imm_fixed _ rs rt imm).trans rfl
theorem sb (rs rt : RegIdx) (imm : Imm16) : Statement (.sb rs rt imm) := (imm_fixed _ rs rt imm).trans rfl
theorem sh (rs rt : RegIdx) (imm : Imm16) : Statement (.sh rs rt imm) := (imm_fixed _ rs rt imm).trans rfl
theorem swl (rs rt : RegIdx) (imm : Imm16) : Statement (.swl rs rt imm) := (imm_fixed _ rs rt imm).trans rfl
theorem sw (rs rt : RegIdx) (imm : Imm16) : Statement (.sw rs rt imm) := (imm_fixed _ rs rt imm).trans rfl
theorem sdl (rs rt : RegIdx) (imm : Imm16) : Statement (.sdl rs rt imm) := (imm_fixed _ rs rt imm).trans rfl
theorem sdr (rs rt : RegIdx) (imm : Imm16) : Statement (.sdr rs rt imm) := (imm_fixed _ rs rt imm).trans rfl
theorem swr (rs rt : RegIdx) (imm : Imm16) : Statement (.swr rs rt imm) := (imm_fixed _ rs rt imm).trans rfl
theorem cache (rs rt : RegIdx) (imm : Imm16) : Statement (.cache rs rt imm) := (imm_fixed _ rs rt imm).trans rfl
theorem ll (rs rt : RegIdx) (imm : Imm16) : Statement (.ll rs rt imm) := (imm_fixed _ rs rt imm).trans rfl
theorem lwc1 (rs rt : RegIdx) (imm : Imm16) : Statement (.lwc1 rs rt imm) := (imm_fixed _ rs rt imm).trans rfl
theorem lwc2 (rs rt : RegIdx) (imm : Imm16) : Statement (.lwc2 rs rt imm) := (imm_fixed _ rs rt imm).trans rfl
theorem pref (rs rt : RegIdx) (imm : Imm16) : Statement (.pref rs rt imm) := (imm_fixed _ rs rt imm).trans rfl
theorem lld (rs rt : RegIdx) (imm : Imm16) : Statement (.lld rs rt imm) := (imm_fixed _ rs rt imm).trans rfl
theorem ldc1 (rs rt : RegIdx) (imm : Imm16) : Statement (.ldc1 rs rt imm) := (imm_fixed _ rs rt imm).trans rfl
theorem ldc2 (rs rt : RegIdx) (imm : Imm16) : Statement (.ldc2 rs rt imm) := (imm_fixed _ rs rt imm).trans rfl
theorem ld (rs rt : RegIdx) (imm : Imm16) : Statement (.ld rs rt imm) := (imm_fixed _ rs rt imm).trans rfl
theorem sc (rs rt : RegIdx) (imm : Imm16) : Statement (.sc rs rt imm) := (imm_fixed _ rs rt imm).trans rfl
theorem swc1 (rs rt : RegIdx) (imm : Imm16) : Statement (.swc1 rs rt imm) := (imm_fixed _ rs rt imm).trans rfl
theorem swc2 (rs rt : RegIdx) (imm : Imm16) : Statement (.swc2 rs rt imm) := (imm_fixed _ rs rt imm).trans rfl
theorem scd (rs rt : RegIdx) (imm : Imm16) : Statement (.scd rs rt imm) := (imm_fixed _ rs rt imm).trans rfl
theorem sdc1 (rs rt : RegIdx) (imm : Imm16) : Statement (.sdc1 rs rt imm) := (imm_fixed _ rs rt imm).trans rfl
theorem sdc2 (rs rt : RegIdx) (imm : Imm16) : Statement (.sdc2 rs rt imm) := (imm_fixed _ rs rt imm).trans rfl
theorem sd (rs rt : RegIdx) (imm : Imm16) : Statement (.sd rs rt imm) := (imm_fixed _ rs rt imm).trans rfl
theorem mmiR5900 (rs rt rd : RegIdx) (sa : BitVec 5) (funct : BitVec 6) : Statement (.mmiR5900 rs rt rd sa funct) := (group_fixed _ rs rt rd sa funct).trans rfl
theorem lqR5900 (rs rt : RegIdx) (imm : Imm16) : Statement (.lqR5900 rs rt imm) := (imm_fixed _ rs rt imm).trans rfl
theorem sqR5900 (rs rt : RegIdx) (imm : Imm16) : Statement (.sqR5900 rs rt imm) := (imm_fixed _ rs rt imm).trans rfl
theorem mfsaR5900 (rs rt rd : RegIdx) (sa : BitVec 5) : Statement (.mfsaR5900 rs rt rd sa) := (special_fixed rs rt rd sa _).trans rfl
theorem mtsaR5900 (rs rt rd : RegIdx) (sa : BitVec 5) : Statement (.mtsaR5900 rs rt rd sa) := (special_fixed rs rt rd sa _).trans rfl
theorem mtsabR5900 (rs : RegIdx) (imm : Imm16) : Statement (.mtsabR5900 rs imm) := (regimm_fixed _ rs _ imm).trans rfl
theorem mtsahR5900 (rs : RegIdx) (imm : Imm16) : Statement (.mtsahR5900 rs imm) := (regimm_fixed _ rs _ imm).trans rfl
theorem nop : Statement .nop := by unfold Statement; decide
theorem ssnop : Statement .ssnop := by unfold Statement; decide
theorem ehb : Statement .ehb := by unfold Statement; decide
theorem zeroDest (word : InstrWord) : Statement (.zeroDest word) := BitVec.and_zero
theorem b (imm : Imm16) : Statement (.b imm) := (idiom_fixed _ _ _ imm).trans rfl
theorem compressed (half : Half) : Statement (.compressed half) := BitVec.and_zero
theorem unrecognized (word : InstrWord) : Statement (.unrecognized word) := BitVec.and_zero

end Sys2Proof.Laws.TableRow
end

