-- ==== Sys2Proof/Laws/Step.lean ====
section
/-! SUPPORT. What the driver's step can do: one lemma for each way it goes. -/

namespace Sys2Proof.Machine

/-! ### Sequencing -/

@[simp] theorem andThen_next (s : State) (k : State → Outcome) : andThen (.next s) k = k s := rfl
@[simp] theorem andThen_fault (r : Fault) (k : State → Outcome) : andThen (.fault r) k = .fault r := rfl
@[simp] theorem andThen_refused (r : Refusal) (k : State → Outcome) : andThen (.refused r) k = .refused r := rfl
@[simp] theorem andAdvance_next (s : State) : andAdvance (.next s) = .next s.advancePc := rfl
@[simp] theorem andAdvance_fault (r : Fault) : andAdvance (.fault r) = .fault r := rfl
@[simp] theorem andAdvance_refused (r : Refusal) : andAdvance (.refused r) = .refused r := rfl

theorem andAdvance_eq_next {o : Outcome} {t : State} (h : andAdvance o = .next t) :
    ∃ u, o = .next u ∧ t = u.advancePc := by
  cases o with
  | next u => exact ⟨u, rfl, by simpa using h.symm⟩
  | fault r => simp at h
  | refused r => simp at h

/-! ### What an outcome leaves -/

@[simp] theorem stateAfter_next (s t : State) : stateAfter s (.next t) = t := rfl
@[simp] theorem stateAfter_unimplemented (s t : State) (k : Word) (rs : List Reason) :
    stateAfter s (.fault (.unimplementedInstruction k rs t)) = t := rfl
@[simp] theorem stateAfter_fetchUnavailable (s : State) (k : Word) :
    stateAfter s (.fault (.fetchUnavailable k)) = s.endRun := rfl
@[simp] theorem stateAfter_malformedCell (s : State) (k : Word) :
    stateAfter s (.fault (.malformedCell k)) = s.endRun := rfl
@[simp] theorem stateAfter_preRunRefused (s t : State) : stateAfter s (.refused (.preRunRefused t)) = t := rfl
@[simp] theorem stateAfter_modelNameFixed (s : State) (n : String) :
    stateAfter s (.refused (.modelNameFixed n)) = s := rfl

/-! ### The start of the run -/

/-- What the start of a run answers: the started state, or the refusal that leaves no run active. -/
theorem startRun_eq (s : State) :
    startRun s = if s.readGpr 0#5 = 0#64 then .next s.started
      else .refused (.preRunRefused (s.emit [.preRunRefused]).endRun) := rfl

@[simp] theorem State.started_desc (s : State) : s.started.desc = s.desc := rfl
@[simp] theorem State.started_gpr (s : State) : s.started.gpr = s.gpr := rfl
@[simp] theorem State.started_hi (s : State) : s.started.hi = s.hi := rfl
@[simp] theorem State.started_lo (s : State) : s.started.lo = s.lo := rfl
@[simp] theorem State.started_pc (s : State) : s.started.pc = s.pc := rfl
@[simp] theorem State.started_pageSize (s : State) : s.started.pageSize = s.pageSize := rfl
@[simp] theorem State.started_endian (s : State) : s.started.endian = s.endian := rfl
@[simp] theorem State.started_cache (s : State) : s.started.cache = s.cache := rfl
@[simp] theorem State.started_sink (s : State) : s.started.sink = s.sink := rfl
@[simp] theorem State.started_running (s : State) : s.started.running = true := rfl
@[simp] theorem State.started_mem (s : State) : s.started.mem = s.mem := rfl
@[simp] theorem State.started_readGpr (s : State) (i : RegIdx) : s.started.readGpr i = s.readGpr i := rfl
@[simp] theorem State.started_lookup (s : State) (k : Word) : s.started.lookup k = s.lookup k := rfl

theorem ensureRun_ready {s : State} (h : s.ready) : ensureRun s = .next s.started := by
  unfold ensureRun
  split
  · next hr => cases s; simp at hr; subst hr; rfl
  · next hr => have := h.resolve_left hr; simp [startRun, this, State.started]

theorem ensureRun_not_ready {s : State} (h : ¬ s.ready) : ensureRun s = .refused (.preRunRefused (s.emit [.preRunRefused]).endRun) := by
  simp only [not_or] at h
  simp [ensureRun, startRun, h]

/-! ### The step -/

theorem step_not_ready {s : State} (h : ¬ s.ready) : step s = .refused (.preRunRefused (s.emit [.preRunRefused]).endRun) := by
  simp [step, runStep, ensureRun_not_ready h]

theorem step_hit {s : State} (h : s.ready) {e : Entry} (he : s.lookup s.pc = some e) :
    step s = andAdvance (executeCell e.cell s.started) := by
  simp [step, runStep, ensureRun_ready h, driverStep, he]

theorem step_miss {s : State} (h : s.ready) (hl : s.lookup s.pc = none) {w : InstrWord}
    (hw : fetchWord s.mem s.endian s.pc = some w) : step s = stepMiss s.started w := by
  simp [step, runStep, ensureRun_ready h, driverStep, hl, hw]

theorem step_unavailable {s : State} (h : s.ready) (hl : s.lookup s.pc = none)
    (hw : fetchWord s.mem s.endian s.pc = none) : step s = .fault (.fetchUnavailable s.pc) := by
  simp [step, runStep, ensureRun_ready h, driverStep, hl, hw]

/-- How a step completes: a cell cached at `pc`, or one translated and filled here, ran to its end. -/
theorem step_next {s t : State} (h : step s = .next t) :
    s.ready ∧
    ((∃ e u, s.lookup s.pc = some e ∧ executeCell e.cell s.started = .next u ∧ t = u.advancePc) ∨
     (∃ w u, s.lookup s.pc = none ∧ fetchWord s.mem s.endian s.pc = some w ∧
        exec (decodeInstr s.desc.variant w s.pc)
          ((s.started.emit (translateWord s.desc w s.pc).2).fill s.pc ⟨w, (translateWord s.desc w s.pc).1⟩) = .next u ∧
        t = u.advancePc)) := by
  by_cases hr : s.ready
  · refine ⟨hr, ?_⟩
    cases hl : s.lookup s.pc with
    | some e =>
      rw [step_hit hr hl] at h
      obtain ⟨u, hu, ht⟩ := andAdvance_eq_next h
      exact .inl ⟨e, u, rfl, hu, ht⟩
    | none =>
      cases hw : fetchWord s.mem s.endian s.pc with
      | none => simp [step_unavailable hr hl hw] at h
      | some w =>
        rw [step_miss hr hl hw] at h
        obtain ⟨u, hu, ht⟩ := andAdvance_eq_next h
        exact .inr ⟨w, u, rfl, rfl, hu, ht⟩
  · simp [step_not_ready hr] at h

end Sys2Proof.Machine
end

