-- ==== Sys2Proof/Tests/Slice0.lean ====
section
/-! SUPPORT. Tests with expected results from the spec: the words of 30_encoding.md's maps, the vectors of 95_test_vectors.md (its part and
table are named), and for each obligation with hypotheses a witness that meets them. -/

namespace Sys2Proof.Tests

open Sys2Proof Sys2Proof.Machine

/-- The word decodes to the instruction in normal mode. -/
def decodesTo (v : Variant) (w : Nat) (i : Instr) : Bool :=
  decodeInstr v (BitVec.ofNat 32 w) 0#64 = i

/-! ### Decoding: every constructor by a word written out from the spec's encoding -/

/-- Words of SPECIAL rows (30_encoding.md R53), part 1, written out field by field. -/
def wordsSpecial0 : List (Nat × Instr) :=
  [(0b000000_10101_00110_01011_10010_000000, .sll 21#5 6#5 11#5 18#5),
   (0b000000_10101_00110_01011_10010_000001, .movci 21#5 6#5 11#5 18#5),
   (0b000000_10101_00110_01011_10010_000010, .srl 21#5 6#5 11#5 18#5),
   (0b000000_10101_00110_01011_10010_000011, .sra 21#5 6#5 11#5 18#5),
   (0b000000_10101_00110_01011_10010_000100, .sllv 21#5 6#5 11#5 18#5),
   (0b000000_10101_00110_01011_10010_000110, .srlv 21#5 6#5 11#5 18#5),
   (0b000000_10101_00110_01011_10010_000111, .srav 21#5 6#5 11#5 18#5),
   (0b000000_10101_00110_01011_10010_001000, .jr 21#5 6#5 11#5 18#5),
   (0b000000_10101_00110_01011_10010_001001, .jalr 21#5 6#5 11#5 18#5),
   (0b000000_10101_00110_01011_10010_001010, .movz 21#5 6#5 11#5 18#5),
   (0b000000_10101_00110_01011_10010_001011, .movn 21#5 6#5 11#5 18#5),
   (0b000000_10101_00110_01011_10010_001100, .syscall 21#5 6#5 11#5 18#5),
   (0b000000_10101_00110_01011_10010_001101, .brk 21#5 6#5 11#5 18#5),
   (0b000000_10101_00110_01011_10010_001111, .sync 21#5 6#5 11#5 18#5)]

theorem test_decode_special0 : wordsSpecial0.all (fun p => decodesTo .standard p.1 p.2) = true := by decide

/-- Words of SPECIAL rows (30_encoding.md R53), part 2, written out field by field. -/
def wordsSpecial1 : List (Nat × Instr) :=
  [(0b000000_10101_00110_01011_10010_010000, .mfhi 21#5 6#5 11#5 18#5),
   (0b000000_10101_00110_01011_10010_010001, .mthi 21#5 6#5 11#5 18#5),
   (0b000000_10101_00110_01011_10010_010010, .mflo 21#5 6#5 11#5 18#5),
   (0b000000_10101_00110_01011_10010_010011, .mtlo 21#5 6#5 11#5 18#5),
   (0b000000_10101_00110_01011_10010_010100, .dsllv 21#5 6#5 11#5 18#5),
   (0b000000_10101_00110_01011_10010_010110, .dsrlv 21#5 6#5 11#5 18#5),
   (0b000000_10101_00110_01011_10010_010111, .dsrav 21#5 6#5 11#5 18#5),
   (0b000000_10101_00110_01011_10010_011000, .mult 21#5 6#5 11#5 18#5),
   (0b000000_10101_00110_01011_10010_011001, .multu 21#5 6#5 11#5 18#5),
   (0b000000_10101_00110_01011_10010_011010, .div 21#5 6#5 11#5 18#5),
   (0b000000_10101_00110_01011_10010_011011, .divu 21#5 6#5 11#5 18#5),
   (0b000000_10101_00110_01011_10010_011100, .dmult 21#5 6#5 11#5 18#5),
   (0b000000_10101_00110_01011_10010_011101, .dmultu 21#5 6#5 11#5 18#5),
   (0b000000_10101_00110_01011_10010_011110, .ddiv 21#5 6#5 11#5 18#5),
   (0b000000_10101_00110_01011_10010_011111, .ddivu 21#5 6#5 11#5 18#5)]

theorem test_decode_special1 : wordsSpecial1.all (fun p => decodesTo .standard p.1 p.2) = true := by decide

/-- Words of SPECIAL rows (30_encoding.md R53), part 3, written out field by field. -/
def wordsSpecial2 : List (Nat × Instr) :=
  [(0b000000_10101_00110_01011_10010_100000, .add 21#5 6#5 11#5 18#5),
   (0b000000_10101_00110_01011_10010_100001, .addu 21#5 6#5 11#5 18#5),
   (0b000000_10101_00110_01011_10010_100010, .sub 21#5 6#5 11#5 18#5),
   (0b000000_10101_00110_01011_10010_100011, .subu 21#5 6#5 11#5 18#5),
   (0b000000_10101_00110_01011_10010_100100, .and 21#5 6#5 11#5 18#5),
   (0b000000_10101_00110_01011_10010_100101, .or 21#5 6#5 11#5 18#5),
   (0b000000_10101_00110_01011_10010_100110, .xor 21#5 6#5 11#5 18#5),
   (0b000000_10101_00110_01011_10010_100111, .nor 21#5 6#5 11#5 18#5),
   (0b000000_10101_00110_01011_10010_101010, .slt 21#5 6#5 11#5 18#5),
   (0b000000_10101_00110_01011_10010_101011, .sltu 21#5 6#5 11#5 18#5),
   (0b000000_10101_00110_01011_10010_101100, .dadd 21#5 6#5 11#5 18#5),
   (0b000000_10101_00110_01011_10010_101101, .daddu 21#5 6#5 11#5 18#5),
   (0b000000_10101_00110_01011_10010_101110, .dsub 21#5 6#5 11#5 18#5),
   (0b000000_10101_00110_01011_10010_101111, .dsubu 21#5 6#5 11#5 18#5)]

theorem test_decode_special2 : wordsSpecial2.all (fun p => decodesTo .standard p.1 p.2) = true := by decide

/-- Words of SPECIAL rows (30_encoding.md R53), part 4, written out field by field. -/
def wordsSpecial3 : List (Nat × Instr) :=
  [(0b000000_10101_00110_01011_10010_110000, .tge 21#5 6#5 11#5 18#5),
   (0b000000_10101_00110_01011_10010_110001, .tgeu 21#5 6#5 11#5 18#5),
   (0b000000_10101_00110_01011_10010_110010, .tlt 21#5 6#5 11#5 18#5),
   (0b000000_10101_00110_01011_10010_110011, .tltu 21#5 6#5 11#5 18#5),
   (0b000000_10101_00110_01011_10010_110100, .teq 21#5 6#5 11#5 18#5),
   (0b000000_10101_00110_01011_10010_110110, .tne 21#5 6#5 11#5 18#5),
   (0b000000_10101_00110_01011_10010_111000, .dsll 21#5 6#5 11#5 18#5),
   (0b000000_10101_00110_01011_10010_111010, .dsrl 21#5 6#5 11#5 18#5),
   (0b000000_10101_00110_01011_10010_111011, .dsra 21#5 6#5 11#5 18#5),
   (0b000000_10101_00110_01011_10010_111100, .dsll32 21#5 6#5 11#5 18#5),
   (0b000000_10101_00110_01011_10010_111110, .dsrl32 21#5 6#5 11#5 18#5),
   (0b000000_10101_00110_01011_10010_111111, .dsra32 21#5 6#5 11#5 18#5)]

theorem test_decode_special3 : wordsSpecial3.all (fun p => decodesTo .standard p.1 p.2) = true := by decide

/-- Words of REGIMM rows (30_encoding.md R54), written out field by field. -/
def wordsRegimm : List (Nat × Instr) :=
  [(0b000001_10101_00000_1000111100110001, .bltz 21#5 0x8f31#16),
   (0b000001_10101_00001_1000111100110001, .bgez 21#5 0x8f31#16),
   (0b000001_10101_00010_1000111100110001, .bltzl 21#5 0x8f31#16),
   (0b000001_10101_00011_1000111100110001, .bgezl 21#5 0x8f31#16),
   (0b000001_10101_01000_1000111100110001, .tgei 21#5 0x8f31#16),
   (0b000001_10101_01001_1000111100110001, .tgeiu 21#5 0x8f31#16),
   (0b000001_10101_01010_1000111100110001, .tlti 21#5 0x8f31#16),
   (0b000001_10101_01011_1000111100110001, .tltiu 21#5 0x8f31#16),
   (0b000001_10101_01100_1000111100110001, .teqi 21#5 0x8f31#16),
   (0b000001_10101_01110_1000111100110001, .tnei 21#5 0x8f31#16),
   (0b000001_10101_10000_1000111100110001, .bltzal 21#5 0x8f31#16),
   (0b000001_10101_10001_1000111100110001, .bgezal 21#5 0x8f31#16),
   (0b000001_10101_10010_1000111100110001, .bltzall 21#5 0x8f31#16),
   (0b000001_10101_10011_1000111100110001, .bgezall 21#5 0x8f31#16),
   (0b000001_10101_11111_1000111100110001, .synci 21#5 0x8f31#16)]

theorem test_decode_regimm : wordsRegimm.all (fun p => decodesTo .standard p.1 p.2) = true := by decide

/-- Words of the J-type rows and the pseudo-instruction (30_encoding.md R52, R61), written out field by field. -/
def wordsJump : List (Nat × Instr) :=
  [(0b000010_10110011100011110000101011, .j 0x2ce3c2b#26),
   (0b000011_10110011100011110000101011, .jal 0x2ce3c2b#26),
   (0b011101_10110011100011110000101011, .jalx 0x2ce3c2b#26),
   (0b000100_00000_00000_1000111100110001, .b 0x8f31#16)]

theorem test_decode_jump : wordsJump.all (fun p => decodesTo .standard p.1 p.2) = true := by decide

/-- Words of I-type rows (30_encoding.md R52), part 1, written out field by field. -/
def wordsImm0 : List (Nat × Instr) :=
  [(0b000100_10101_00110_1000111100110001, .beq 21#5 6#5 0x8f31#16),
   (0b000101_10101_00110_1000111100110001, .bne 21#5 6#5 0x8f31#16),
   (0b000110_10101_00110_1000111100110001, .blez 21#5 6#5 0x8f31#16),
   (0b000111_10101_00110_1000111100110001, .bgtz 21#5 6#5 0x8f31#16),
   (0b001000_10101_00110_1000111100110001, .addi 21#5 6#5 0x8f31#16),
   (0b001001_10101_00110_1000111100110001, .addiu 21#5 6#5 0x8f31#16),
   (0b001010_10101_00110_1000111100110001, .slti 21#5 6#5 0x8f31#16),
   (0b001011_10101_00110_1000111100110001, .sltiu 21#5 6#5 0x8f31#16),
   (0b001100_10101_00110_1000111100110001, .andi 21#5 6#5 0x8f31#16),
   (0b001101_10101_00110_1000111100110001, .ori 21#5 6#5 0x8f31#16),
   (0b001110_10101_00110_1000111100110001, .xori 21#5 6#5 0x8f31#16),
   (0b001111_10101_00110_1000111100110001, .lui 21#5 6#5 0x8f31#16)]

theorem test_decode_imm0 : wordsImm0.all (fun p => decodesTo .standard p.1 p.2) = true := by decide

/-- Words of I-type rows (30_encoding.md R52), part 2, written out field by field. -/
def wordsImm1 : List (Nat × Instr) :=
  [(0b010100_10101_00110_1000111100110001, .beql 21#5 6#5 0x8f31#16),
   (0b010101_10101_00110_1000111100110001, .bnel 21#5 6#5 0x8f31#16),
   (0b010110_10101_00110_1000111100110001, .blezl 21#5 6#5 0x8f31#16),
   (0b010111_10101_00110_1000111100110001, .bgtzl 21#5 6#5 0x8f31#16),
   (0b011000_10101_00110_1000111100110001, .daddi 21#5 6#5 0x8f31#16),
   (0b011001_10101_00110_1000111100110001, .daddiu 21#5 6#5 0x8f31#16),
   (0b011010_10101_00110_1000111100110001, .ldl 21#5 6#5 0x8f31#16),
   (0b011011_10101_00110_1000111100110001, .ldr 21#5 6#5 0x8f31#16)]

theorem test_decode_imm1 : wordsImm1.all (fun p => decodesTo .standard p.1 p.2) = true := by decide

/-- Words of I-type rows (30_encoding.md R52), part 3, written out field by field. -/
def wordsImm2 : List (Nat × Instr) :=
  [(0b100000_10101_00110_1000111100110001, .lb 21#5 6#5 0x8f31#16),
   (0b100001_10101_00110_1000111100110001, .lh 21#5 6#5 0x8f31#16),
   (0b100010_10101_00110_1000111100110001, .lwl 21#5 6#5 0x8f31#16),
   (0b100011_10101_00110_1000111100110001, .lw 21#5 6#5 0x8f31#16),
   (0b100100_10101_00110_1000111100110001, .lbu 21#5 6#5 0x8f31#16),
   (0b100101_10101_00110_1000111100110001, .lhu 21#5 6#5 0x8f31#16),
   (0b100110_10101_00110_1000111100110001, .lwr 21#5 6#5 0x8f31#16),
   (0b100111_10101_00110_1000111100110001, .lwu 21#5 6#5 0x8f31#16),
   (0b101000_10101_00110_1000111100110001, .sb 21#5 6#5 0x8f31#16),
   (0b101001_10101_00110_1000111100110001, .sh 21#5 6#5 0x8f31#16),
   (0b101010_10101_00110_1000111100110001, .swl 21#5 6#5 0x8f31#16),
   (0b101011_10101_00110_1000111100110001, .sw 21#5 6#5 0x8f31#16),
   (0b101100_10101_00110_1000111100110001, .sdl 21#5 6#5 0x8f31#16),
   (0b101101_10101_00110_1000111100110001, .sdr 21#5 6#5 0x8f31#16),
   (0b101110_10101_00110_1000111100110001, .swr 21#5 6#5 0x8f31#16),
   (0b101111_10101_00110_1000111100110001, .cache 21#5 6#5 0x8f31#16)]

theorem test_decode_imm2 : wordsImm2.all (fun p => decodesTo .standard p.1 p.2) = true := by decide

/-- Words of I-type rows (30_encoding.md R52), part 4, written out field by field. -/
def wordsImm3 : List (Nat × Instr) :=
  [(0b110000_10101_00110_1000111100110001, .ll 21#5 6#5 0x8f31#16),
   (0b110001_10101_00110_1000111100110001, .lwc1 21#5 6#5 0x8f31#16),
   (0b110010_10101_00110_1000111100110001, .lwc2 21#5 6#5 0x8f31#16),
   (0b110011_10101_00110_1000111100110001, .pref 21#5 6#5 0x8f31#16),
   (0b110100_10101_00110_1000111100110001, .lld 21#5 6#5 0x8f31#16),
   (0b110101_10101_00110_1000111100110001, .ldc1 21#5 6#5 0x8f31#16),
   (0b110110_10101_00110_1000111100110001, .ldc2 21#5 6#5 0x8f31#16),
   (0b110111_10101_00110_1000111100110001, .ld 21#5 6#5 0x8f31#16),
   (0b111000_10101_00110_1000111100110001, .sc 21#5 6#5 0x8f31#16),
   (0b111001_10101_00110_1000111100110001, .swc1 21#5 6#5 0x8f31#16),
   (0b111010_10101_00110_1000111100110001, .swc2 21#5 6#5 0x8f31#16),
   (0b111100_10101_00110_1000111100110001, .scd 21#5 6#5 0x8f31#16),
   (0b111101_10101_00110_1000111100110001, .sdc1 21#5 6#5 0x8f31#16),
   (0b111110_10101_00110_1000111100110001, .sdc2 21#5 6#5 0x8f31#16),
   (0b111111_10101_00110_1000111100110001, .sd 21#5 6#5 0x8f31#16)]

theorem test_decode_imm3 : wordsImm3.all (fun p => decodesTo .standard p.1 p.2) = true := by decide

/-- Words of the untranslated groups (30_encoding.md R52, R55), written out field by field. -/
def wordsGroup : List (Nat × Instr) :=
  [(0b010000_10101_00110_01011_10010_110101, .cop0 21#5 6#5 11#5 18#5 53#6),
   (0b010001_10101_00110_01011_10010_110101, .cop1 21#5 6#5 11#5 18#5 53#6),
   (0b010010_10101_00110_01011_10010_110101, .cop2 21#5 6#5 11#5 18#5 53#6),
   (0b010011_10101_00110_01011_10010_110101, .cop1x 21#5 6#5 11#5 18#5 53#6),
   (0b011100_10101_00110_01011_10010_110101, .special2 21#5 6#5 11#5 18#5 53#6),
   (0b011111_10101_00110_01011_10010_110101, .special3 21#5 6#5 11#5 18#5 53#6)]

theorem test_decode_group : wordsGroup.all (fun p => decodesTo .standard p.1 p.2) = true := by decide

/-- Words of the R5900 rows (30_encoding.md R52 to R54, R56), written out field by field. -/
def wordsR5900 : List (Nat × Instr) :=
  [(0b011100_10101_00110_01011_10010_110101, .mmiR5900 21#5 6#5 11#5 18#5 53#6),
   (0b011110_10101_00110_1000111100110001, .lqR5900 21#5 6#5 0x8f31#16),
   (0b011111_10101_00110_1000111100110001, .sqR5900 21#5 6#5 0x8f31#16),
   (0b000000_10101_00110_01011_10010_101000, .mfsaR5900 21#5 6#5 11#5 18#5),
   (0b000000_10101_00110_01011_10010_101001, .mtsaR5900 21#5 6#5 11#5 18#5),
   (0b000001_10101_11000_1000111100110001, .mtsabR5900 21#5 0x8f31#16),
   (0b000001_10101_11001_1000111100110001, .mtsahR5900 21#5 0x8f31#16)]

theorem test_decode_r5900 : wordsR5900.all (fun p => decodesTo .r5900 p.1 p.2) = true := by decide

/-- The words with a more particular name, the words of no row, and one translated row with register 0 as destination, whose
own name is the row's (30_encoding.md R58, R57; log 27). -/
def wordsNamed : List (Nat × Instr) :=
  [(0x00000000, .nop), (0x00000040, .ssnop), (0x000000c0, .ehb), (0x27a0ffd8, .addiu 29#5 0#5 0xffd8#16),
   (0b000000_10101_00110_01011_10010_000101, .unrecognized 0x02a65c85#32),
   (0b000001_10101_00100_1000111100110001, .unrecognized 0x06a48f31#32),
   (0b111011_10101_00110_1000111100110001, .unrecognized 0xeea68f31#32),
   (0b011110_10101_00110_1000111100110001, .unrecognized 0x7aa68f31#32)]

theorem test_decode_named : wordsNamed.all (fun p => decodesTo .standard p.1 p.2) = true := by decide

/-- 95_test_vectors.md 2.1: the compressed rows. -/
theorem test_decode_compressed :
    decode 0x27bdffd8#32 0x12345679#64 = .compressedPlaceholder 0xffd8#16 0x12345679#64 ∧
    decodeInstr .standard 0x00006500#32 0x80000001#64 = .compressed 0x6500#16 := by decide

/-- 95_test_vectors.md 2.1, first row. -/
theorem test_decode_fields :
    decode 0x27bdffd8#32 0x12345678#64 = .normal
      { primary := 9#6, rs := 29#5, rt := 29#5, rd := 31#5, sa := 31#5, funct := 0x18#6, secondary := none,
        imm16 := 0xffd8#16, target26 := 0x3bdffd8#26, word := 0x27bdffd8#32, vaddr := 0x12345678#64 } := by decide

theorem test_decode_table_word :
    decodeTableWord 32 0x27bdffd8 = some (.addiu 29#5 29#5 0xffd8#16) ∧
    decodeTableWord 16 0x6500 = some (.compressed 0x6500#16) := by decide

/-! ### Well-formedness: an ill-formed term for each check -/

/-- SLL and BEQ with the fields of NOP, SSNOP, EHB and B (30_encoding.md R58, R61). -/
theorem test_wf_refuses_alias_words :
    (Instr.sll 0#5 0#5 0#5 0#5).wf .standard = false ∧ (Instr.sll 0#5 0#5 0#5 1#5).wf .standard = false ∧
    (Instr.sll 0#5 0#5 0#5 3#5).wf .standard = false ∧ (Instr.sll 0#5 0#5 0#5 2#5).wf .standard = true ∧
    (Instr.beq 0#5 0#5 7#16).wf .standard = false ∧ (Instr.beq 0#5 1#5 7#16).wf .standard = true := by decide

/-- Rows of the R5900 on the standard variant, and the rows the R5900 replaces (30_encoding.md R56). -/
theorem test_wf_refuses_other_variant :
    (Instr.mmiR5900 1#5 1#5 1#5 1#5 1#6).wf .standard = false ∧ (Instr.lqR5900 1#5 1#5 1#16).wf .standard = false ∧
    (Instr.sqR5900 1#5 1#5 1#16).wf .standard = false ∧ (Instr.mfsaR5900 1#5 1#5 1#5 1#5).wf .standard = false ∧
    (Instr.mtsaR5900 1#5 1#5 1#5 1#5).wf .standard = false ∧ (Instr.mtsabR5900 1#5 1#16).wf .standard = false ∧
    (Instr.mtsahR5900 1#5 1#16).wf .standard = false ∧ (Instr.special2 1#5 1#5 1#5 1#5 1#6).wf .r5900 = false ∧
    (Instr.special3 1#5 1#5 1#5 1#5 1#6).wf .r5900 = false := by decide

/-- A named word is not unrecognized, and a word with another destination is not a zero-destination word. -/
theorem test_wf_refuses_named_words :
    (Instr.unrecognized 0x27bdffd8#32).wf .standard = false ∧ (Instr.unrecognized 0x78000000#32).wf .r5900 = false ∧
    (Instr.unrecognized 0x04180000#32).wf .r5900 = false ∧ (Instr.unrecognized 0x00000028#32).wf .r5900 = false ∧
    (Instr.zeroDest 0x27bdffd8#32).wf .standard = false ∧ (Instr.zeroDest 0x20000000#32).wf .standard = false := by decide

/-! ### A step from a small state -/

/-- A processor of an ISA level. -/
def model (l : IsaLevel) : Descriptor := ⟨"model", l, .r1, .standard⟩

/-- A state after reset on a level, with some registers set. -/
def small (l : IsaLevel) (regs : List (RegIdx × Word)) : State :=
  regs.foldl (fun s p => s.writeGpr p.1 p.2) (State.fresh (model l) .big)

/-- Register `r` after one step that fetches the word `w`; none where the step does not complete. -/
def after (w : Nat) (regs : List (RegIdx × Word)) (r : RegIdx) : Option Word :=
  match step ((small .l64 regs).withFetchWord 32 w) with
  | .next t => some (t.readGpr r)
  | _ => none

/-- The fault an outcome stops with. -/
def faultOf : Outcome → Option Fault
  | .fault r => some r
  | _ => none

/-- The refusal an outcome stops with. -/
def refusalOf : Outcome → Option Refusal
  | .refused r => some r
  | _ => none

/-- Does an outcome go on? -/
def goesOn : Outcome → Bool
  | .next _ => true
  | _ => false

/-! The vectors of 95_test_vectors.md 2.4. -/

theorem test_addiu_overflows_to_negative : after 0x24820001 [(4#5, 0x7fffffff#64)] 2#5 = some 0xFFFFFFFF80000000#64 := by decide
theorem test_addiu_source_is_destination : after 0x27bdffd8 [(29#5, 0x1000#64)] 29#5 = some 0xFD8#64 := by decide
theorem test_addu_truncates : after 0x00851021 [(4#5, 0x80000000#64), (5#5, 0x80000000#64)] 2#5 = some 0#64 := by decide
theorem test_addu_aliased : after 0x01084021 [(8#5, 0x80000001#64)] 8#5 = some 2#64 := by decide
theorem test_daddiu_no_truncation : after 0x64820001 [(4#5, 0x7fffffff#64)] 2#5 = some 0x80000000#64 := by decide
theorem test_daddiu_minus_one : after 0x6482ffff [(4#5, 0#64)] 2#5 = some 0xFFFFFFFFFFFFFFFF#64 := by decide
theorem test_daddu_wraps : after 0x0085102d [(4#5, 0xFFFFFFFFFFFFFFFF#64), (5#5, 1#64)] 2#5 = some 0#64 := by decide
theorem test_daddu_aliased : after 0x0108402d [(8#5, 0x8000000000000001#64)] 8#5 = some 2#64 := by decide
theorem test_andi_zero_extends : after 0x3082ffff [(4#5, 0xFFFFFFFFFFFFFFFF#64)] 2#5 = some 0xFFFF#64 := by decide
theorem test_ori_keeps_upper : after 0x3482ffff [(4#5, 0xFFFFFFFF80000000#64)] 2#5 = some 0xFFFFFFFF8000FFFF#64 := by decide
theorem test_xori_keeps_upper : after 0x3882ffff [(4#5, 0xFFFFFFFF00001234#64)] 2#5 = some 0xFFFFFFFF0000EDCB#64 := by decide
theorem test_lui_sign_extends : after 0x3c048000 [] 4#5 = some 0xFFFFFFFF80000000#64 := by decide
theorem test_lui_ignores_rs : after 0x3fe41234 [(31#5, 5#64)] 4#5 = some 0x12340000#64 := by decide
theorem test_sll_by_31 : after 0x000417c0 [(4#5, 3#64)] 2#5 = some 0xFFFFFFFF80000000#64 := by decide
theorem test_sll_ignores_upper : after 0x00041100 [(4#5, 0xFFFFFFFF00000001#64)] 2#5 = some 0x10#64 := by decide
theorem test_nop_keeps_registers : after 0x00000000 [(29#5, 0x1000#64)] 29#5 = some 0x1000#64 := by decide

/-- A destination of 0 writes nothing (95_test_vectors.md W1, W6). -/
theorem test_zero_destination : after 0x27a0ffd8 [(29#5, 0x1000#64)] 0#5 = some 0#64 := by decide

/-- `pc` advances by 4 from its reset value (42_cell_operations.md R93). -/
theorem test_pc_advances : (stateAfter State.reset (step ((small .l1 []).withFetchWord 32 0x3c048000))).pc = 4#64 := by decide

/-- With nothing placed, the step from reset has no byte to fetch (log 6). -/
theorem test_reset_fetches_nothing : faultOf (step State.reset) = some (.fetchUnavailable 0#64) := by decide

/-! ### Translation: 95_test_vectors.md 2.2 -/

/-- DADDIU sp,sp,-40: the cell and the number of diagnostics by level. -/
theorem test_translate_daddiu :
    (translateWord (model .l1) 0x67bdffd8#32 0#64).1 = ⟨.invalid, [], [.isaMismatch, .width64On32]⟩ ∧
    (translateWord (model .l1) 0x67bdffd8#32 0#64).2.length = 2 ∧
    (translateWord (model .l32) 0x67bdffd8#32 0#64).1 = ⟨.invalid, [], [.width64On32]⟩ ∧
    translateWord (model .l3) 0x67bdffd8#32 0#64 = (⟨.addImm64, [.reg 29#5, .reg 29#5, .sImm (-40)], []⟩, []) := by decide

/-- DADDU with destination 0: `Invalid` wins over the no-op (D7). -/
theorem test_translate_daddu_zero :
    (translateWord (model .l1) 0x0080002d#32 0#64).1 = ⟨.invalid, [], [.isaMismatch, .width64On32]⟩ ∧
    translateWord (model .l64) 0x0080002d#32 0#64 = (⟨.nop, [], []⟩, []) := by decide

/-- LUI's scalar, and an ADDI that is no row, register 0 or not (D8). -/
theorem test_translate_lui_and_addi :
    (translateWord (model .l1) 0x3c048000#32 0#64).1 = ⟨.setImm, [.reg 4#5, .sImm (-2147483648)], []⟩ ∧
    translateWord (model .l1) 0x20000000#32 0#64 =
      (⟨.invalid, [], [.unimplemented]⟩, [.unimplemented 0#64 0x20000000#32]) := by decide

/-! ### The cache: 95_test_vectors.md 2.3 -/

/-- The branch word at 0x100 on a level-1 processor, not yet translated. -/
def branchAt100 : State := ({ small .l1 [] with pc := 0x100#64 } : State).withFetchWord 32 0x1000ffff

/-- The first visit raises the condition and leaves the cell; the second raises it with no further diagnostic. -/
theorem test_branch_visited_twice :
    let first := stateAfter branchAt100 (step branchAt100)
    let second := stateAfter first (step first)
    first.lookup 0x100#64 = some ⟨0x1000ffff#32, ⟨.invalid, [], [.unimplemented]⟩⟩ ∧ first.sink.length = 1 ∧
    first.pc = 0x100#64 ∧ second.sink.length = 1 ∧ second.pc = 0x100#64 := by decide

/-- The normal entry at 0x100 and the compressed one at key 0x101. -/
def twoModes : State :=
  ((small .l1 []).fill 0x100#64 ⟨0#32, Cell.nop⟩).fill 0x101#64 ⟨0#32, Cell.invalid [.unimplemented]⟩

theorem test_invalidate_ranges :
    (twoModes.invalidateAddress 0x103).lookup 0x100#64 = none ∧
    ((twoModes.invalidateAddress 0x104).lookup 0x100#64).isSome = true ∧
    ((twoModes.invalidateRange 0xFC 0x100).lookup 0x100#64).isSome = true ∧
    (twoModes.invalidateRange 0xFD 0x101).lookup 0x100#64 = none := by decide

theorem test_invalidate_compressed :
    ((twoModes.invalidateAddress 0x102).lookup 0x101#64).isSome = true ∧
    (twoModes.invalidateAddress 0x101).lookup 0x101#64 = none ∧ (twoModes.invalidateAddress 0x100).cache = [] := by decide

/-- A stale cell runs after its bytes are overwritten (70_reset_and_hazards.md R112): ORI's word replaces LUI's at 0. -/
theorem test_stale_cell :
    let s := stateAfter (small .l1 []) (step ((small .l1 []).withFetchWord 32 0x3c041234))
    let s' : State := { s with pc := 0#64, mem := s.mem.writeBytes 0#64 [0x34#8, 0x04#8, 0x00#8, 0x01#8] }
    (stateAfter s' (step s')).readGpr 4#5 = 0x12340000#64 := by decide

/-- Little-endian fetch of the bytes D8 FF BD 27 (20_memory.md R30). -/
theorem test_fetch_little :
    fetchWord [(0, 0xd8#8), (1, 0xff#8), (2, 0xbd#8), (3, 0x27#8)] .little 0#64 = some 0x27bdffd8#32 ∧
    fetchWord [(0, 0xd8#8), (1, 0xff#8)] .little 1#64 = some 0xffd8#32 := by decide

/-- After a start, a set of `x[0]` and a refused start, the next step is refused: no cell executes unchecked
(95_test_vectors.md 2.7; 60_exceptions.md R96; 70_reset_and_hazards.md R113). -/
theorem test_no_cell_after_refused_start :
    let s := performAll [.startRun, .driverStep, .registrySet (.gpr 0#5) 5#64, .startRun]
      ((small .l1 []).withFetchWord 32 0x3c041234)
    s.running = false ∧ s.sink = [.preRunRefused] ∧
      refusalOf (step s) = some (.preRunRefused (s.emit [.preRunRefused])) := by decide

/-! ### Runs, targets, segments, disassembly: 95_test_vectors.md 2.5 to 2.7, W5 and W7 -/

theorem test_pre_run_refused :
    refusalOf (step ((small .l1 [(0#5, 5#64)]).withFetchWord 32 0)) =
      some (.preRunRefused (((small .l1 [(0#5, 5#64)]).withFetchWord 32 0).emit [.preRunRefused])) := by decide

theorem test_branch_targets :
    branchTarget 0x12345678#64 0xffff#16 = 0x12345678#64 ∧ branchTarget 0x1000#64 0x0003#16 = 0x1010#64 ∧
    branchTarget 0xFFFFFFFFFFFFFFFC#64 0#16 = 0#64 ∧ branchTarget 0#64 0x8000#16 = 0xFFFFFFFFFFFE0004#64 := by decide

theorem test_jump_targets :
    jumpTarget 0x0FFFFFFC#64 1#26 = 0x10000004#64 ∧ jumpTarget 0x80001000#64 0x40#26 = 0x80000100#64 ∧
    jumpTarget 0xBFC00000#64 0x3ffffff#26 = 0xBFFFFFFC#64 := by decide

theorem test_segments_64 :
    translateAddressAt .w64 0xFFFFFFFF80000000#64 = some (0#64, true) ∧
    translateAddressAt .w64 0xFFFFFFFFBFFFFFFF#64 = some (0x1FFFFFFF#64, true) ∧
    translateAddressAt .w64 0xFFFFFFFFC0000000#64 = none ∧ translateAddressAt .w64 0xFFFFFFFF7FFFFFFF#64 = none ∧
    translateAddressAt .w64 0xA8000FFFFFFFFFFF#64 = some (0xFFFFFFFFFFF#64, true) ∧
    translateAddressAt .w64 0xA800100000000000#64 = none ∧ translateAddressAt .w64 0xBFC00000#64 = none := by decide

theorem test_segments_32 :
    translateAddressAt .w32 0xBFC00000#64 = some (0x1FC00000#64, true) ∧
    translateAddressAt .w32 0x1234567880001000#64 = some (0x1000#64, true) ∧
    translateAddressAt .w32 0xA800000000000000#64 = none := by decide

theorem test_disassemble_addiu :
    disassemble .standard .big 0x12345678#64 [0x27#8, 0xBD#8, 0xFF#8, 0xD8#8] =
      .ok ⟨"27bdffd8", .text "addiu" [.reg 29#5, .reg 29#5, .dec (-40)], 4⟩ ∧
    operandString [.reg 29#5, .reg 29#5, .dec (-40)] = "sp,sp,-40" := by decide

theorem test_disassemble_b :
    disasmBody 0x12345678#64 (decodeInstr .standard 0x1000ffff#32 0x12345678#64) = .text "b" [.target 0x12345678#64] := by
  decide

/-! ### Witnesses: concrete values that meet the hypotheses of each obligation that has some -/

/-- A well-formed normal instruction, a well-formed second name and a well-formed compressed one, each at an address of its mode:
DecodeEncodeRoundTrip, EveryWordDecodesAndEncodesBack, ByteRoundTrip. -/
theorem witness_round_trip :
    ((Instr.addiu 29#5 29#5 0xffd8#16).wf .standard = true ∧ (0#64).getLsbD 0 = (Instr.addiu 29#5 29#5 0xffd8#16).isCompressed) ∧
    ((Instr.zeroDest 0x27a0ffd8#32).wf .standard = true ∧ (4#64).getLsbD 0 = (Instr.zeroDest 0x27a0ffd8#32).isCompressed) ∧
    ((Instr.compressed 0x6500#16).wf .r5900 = true ∧ (1#64).getLsbD 0 = (Instr.compressed 0x6500#16).isCompressed) ∧
    ((Instr.unrecognized 0xeea68f31#32).wf .standard = true ∧ (Instr.lqR5900 1#5 2#5 3#16).wf .r5900 = true) := by decide

/-- Both modes, at the ends of the address range: DecoderModeIsAddressBitZero, DecoderExtractsEveryField (a SPECIAL and
another word), CompressedTranslation. -/
theorem witness_modes :
    (1#64).toNat % 2 = 1 ∧ (0xFFFFFFFFFFFFFFFF#64).toNat % 2 = 1 ∧ (0#64).toNat % 2 = 0 ∧
    (0xFFFFFFFFFFFFFFFE#64).toNat % 2 = 0 ∧ (0x0000000c#32).toNat / 2 ^ 26 = 0 ∧ (0x27bdffd8#32).toNat / 2 ^ 26 ≠ 0 := by decide

/-- TooFewBytesAreRejected, one byte short in each mode. -/
theorem witness_too_few_bytes :
    ([0#8, 0#8, 0#8] : List Byte).length < consumedLength 0#64 ∧ ([0#8] : List Byte).length < consumedLength 1#64 := by decide

/-- Four bytes at the top of the address space, which wrap. -/
def wrapped : Memory := [(0, 3#8), (1, 4#8), (2 ^ 64 - 2, 1#8), (2 ^ 64 - 1, 2#8)]

/-- FetchAssemblesBytesInOrder, in both modes. -/
theorem witness_fetch :
    wrapped.wf ∧ wrapped.readByte (pcaddr 0xFFFFFFFFFFFFFFFE#64) = some 1#8 ∧
    wrapped.readByte (pcaddr 0xFFFFFFFFFFFFFFFE#64 + 1#64) = some 2#8 ∧
    wrapped.readByte (pcaddr 0xFFFFFFFFFFFFFFFE#64 + 2#64) = some 3#8 ∧
    wrapped.readByte (pcaddr 0xFFFFFFFFFFFFFFFE#64 + 3#64) = some 4#8 ∧
    wrapped.readByte (pcaddr 0xFFFFFFFFFFFFFFFF#64) = some 1#8 ∧
    wrapped.readByte (pcaddr 0xFFFFFFFFFFFFFFFF#64 + 1#64) = some 2#8 := by decide

/-- UnrecognizedEncodingTranslation, with a SPECIAL word and another. -/
theorem witness_unrecognized :
    opMap (decodeNormal 0x0000000c#32 4#64).primary (decodeNormal 0x0000000c#32 4#64).secondary .standard = none ∧
    opMap (decodeNormal 0x1000ffff#32 0#64).primary (decodeNormal 0x1000ffff#32 0#64).secondary .r5900 = none := by decide

/-- LevelRevisionCheck: the reason by the level and by the revision, at the nearest levels that fail and pass. -/
theorem witness_level_revision :
    Reason.isaMismatch ∈ illegalReasons specDaddiu (model .l2) ∧ Reason.isaMismatch ∉ illegalReasons specDaddiu (model .l3) ∧
    Reason.isaMismatch ∈ illegalReasons ⟨.nop, .rdRsRt, .l32, .r2⟩ (model .l32) ∧
    Reason.isaMismatch ∉ illegalReasons ⟨.nop, .rdRsRt, .l32, .r1⟩ (model .l32) := by decide

/-- TranslatedCellsAreWellFormed: a translation whose cell is invalid. -/
theorem witness_invalid_cell : (translateWord (model .l1) 0x67bdffd8#32 0#64).1.operation = .invalid := by decide

/-- ExecAgreesWithTranslation, in both modes. -/
theorem witness_exec_agrees :
    (Instr.addiu 29#5 29#5 0xffd8#16).wf State.reset.desc.variant = true ∧
    State.reset.pc.getLsbD 0 = (Instr.addiu 29#5 29#5 0xffd8#16).isCompressed ∧
    (registrySet State.reset .pc 1#64).pc.getLsbD 0 = (Instr.compressed 0#16).isCompressed := by decide

/-- DaddiuResult and DadduResult: a state on each level. -/
theorem witness_levels :
    [IsaLevel.l1, .l2, .l3, .l4, .l32, .l64].all (fun l => (small l []).desc.isaLevel = l) = true := by decide

/-- ZeroDestinationIsElided: a level-1 row, and DADDIU and DADDU, with destination 0. -/
theorem witness_zero_destination :
    (zeroDestWord 0x27a0ffd8#32 = true ∧
      ¬ ((0x27a0ffd8#32).toNat / 2 ^ 26 = 25 ∨ ((0x27a0ffd8#32).toNat / 2 ^ 26 = 0 ∧ (0x27a0ffd8#32).toNat % 64 = 45))) ∧
    (zeroDestWord 0x67a0ffd8#32 = true ∧ (0x67a0ffd8#32).toNat / 2 ^ 26 = 25) ∧
    (zeroDestWord 0x0080002d#32 = true ∧ (0x0080002d#32).toNat / 2 ^ 26 = 0 ∧ (0x0080002d#32).toNat % 64 = 45) := by decide

/-- ImmediateInstructionFrame, RegisterInstructionFrame and ExecWritesOnlyGeneralRegisters: each instruction they name
completes. -/
theorem witness_frames :
    [Instr.addiu 4#5 2#5 1#16, .daddiu 4#5 2#5 1#16, .andi 4#5 2#5 1#16, .ori 4#5 2#5 1#16, .xori 4#5 2#5 1#16,
      .lui 4#5 2#5 1#16, .addu 4#5 5#5 2#5 0#5, .daddu 4#5 5#5 2#5 0#5, .sll 0#5 4#5 2#5 4#5].all
      (fun i => goesOn (exec i State.reset)) = true := by decide

/-- ADDIU sp,sp,-40 at the reset `pc`, not yet translated: StepRunsDecodedInstruction, FillOnMissOnly (second clause),
StepFrame, StepKeepsInvariant, StepCompletesOrRaisesOneCondition (completing). -/
def missState : State := (small .l1 []).withFetchWord 32 0x27bdffd8

theorem witness_miss :
    missState.ready ∧ missState.lookup missState.pc = none ∧
    fetchWord missState.mem missState.endian missState.pc = some 0x27bdffd8#32 ∧
    decodeInstr missState.desc.variant 0x27bdffd8#32 missState.pc = .addiu 29#5 29#5 0xffd8#16 ∧
    (Instr.addiu 29#5 29#5 0xffd8#16).wf missState.desc.variant = true ∧ missState.Inv ∧ goesOn (step missState) = true := by decide

/-- The same instruction cached, with other bytes now in memory: CachedStepRunsCachedInstruction, FillOnMissOnly (first
clause), StaleCellRunsUntilInvalidated. -/
def hitState : State :=
  ((small .l1 []).fill 0#64 ⟨0x27bdffd8#32, ⟨.addImmTrunc32, [.reg 29#5, .reg 29#5, .sImm (-40)], []⟩⟩)

theorem witness_hit :
    hitState.ready ∧ hitState.cacheCoherent ∧ hitState.Inv ∧ goesOn (step hitState) = true ∧
    hitState.lookup hitState.pc =
      some ⟨0x27bdffd8#32, ⟨.addImmTrunc32, [.reg 29#5, .reg 29#5, .sImm (-40)], []⟩⟩ := by decide

/-- InvalidateRemovesOverlappingEntries: the bytes of the keys 0x100 and 0x101 at the ends of a range, and just beyond it. -/
theorem witness_invalidate :
    ((0x103 : Int) ≤ 0x103 ∧ (0x103 : Int) < 0x104 ∧ ((0x100 - 0x100 % 2 : Nat) : Int) ≤ 0x103 ∧
      (0x103 : Int) < ((0x100 - 0x100 % 2 : Nat) : Int) + 4) ∧
    ((0x101 : Int) ≤ 0x101 ∧ (0x101 : Int) < 0x102 ∧ ((0x101 - 0x101 % 2 : Nat) : Int) ≤ 0x101 ∧
      (0x101 : Int) < ((0x101 - 0x101 % 2 : Nat) : Int) + 2) ∧
    ¬ ∃ a : Int, 0x104 ≤ a ∧ a < 0x105 ∧ ((0x100 - 0x100 % 2 : Nat) : Int) ≤ a ∧ a < ((0x100 - 0x100 % 2 : Nat) : Int) + 4 := by
  refine ⟨by decide, by decide, ?_⟩
  rintro ⟨a, h⟩
  omega

/-- EntriesComeByFillAndGoByInvalidation: an entry under a transaction that is neither a reset nor an invalidation, and a step
that makes one. -/
theorem witness_entry_life :
    ((hitState.lookup 0#64).isSome = true ∧ Transaction.externalWrite 0#64 [1#8] ≠ .reset ∧
      (∀ lo hi, Transaction.externalWrite 0#64 [1#8] ≠ .invalidateRange lo hi) ∧
      (∀ a, Transaction.externalWrite 0#64 [1#8] ≠ .invalidateAddress a)) ∧
    (missState.lookup 0#64 = none ∧
      (stateAfter missState (perform .driverStep missState)).lookup 0#64 =
        some ⟨0x27bdffd8#32, ⟨.addImmTrunc32, [.reg 29#5, .reg 29#5, .sImm (-40)], []⟩⟩) := by
  refine ⟨⟨by decide, ?_, ?_, ?_⟩, by decide⟩
  · intro h; simp at h
  · intro lo hi h; simp at h
  · intro a h; simp at h

/-- InvalidCellRaises: a cached invalid cell at `pc`. -/
theorem witness_cached_invalid :
    (twoModes.ready ∧ (registrySet twoModes .pc 0x101#64).ready) ∧
    (registrySet twoModes .pc 0x101#64).lookup (registrySet twoModes .pc 0x101#64).pc =
      some ⟨0#32, ⟨.invalid, [], [.unimplemented]⟩⟩ := by decide

/-- UntranslatedWordRaisesAndIsCached, in both modes, and StepCompletesOrRaisesOneCondition (raising). -/
theorem witness_untranslated :
    (branchAt100.ready ∧ branchAt100.lookup branchAt100.pc = none ∧ branchAt100.Inv ∧
      fetchWord branchAt100.mem branchAt100.endian branchAt100.pc = some 0x1000ffff#32 ∧
      opMap (decodeNormal 0x1000ffff#32 branchAt100.pc).primary (decodeNormal 0x1000ffff#32 branchAt100.pc).secondary
        branchAt100.desc.variant = none) ∧
    ((registrySet branchAt100 .pc 0x101#64).lookup 0x101#64 = none ∧
      fetchWord branchAt100.mem branchAt100.endian 0x101#64 = some 0x1000#32 ∧ (0x101#64).toNat % 2 = 1) := by decide

/-- TransactionsKeepInvariant: states of the invariant inside a run and outside one with `x[0]` not 0. -/
theorem witness_transactions :
    (hitState.started.Inv ∧ hitState.started.running = true) ∧
    ((registrySet hitState.started (.gpr 0#5) 5#64).Inv ∧
      (registrySet hitState.started (.gpr 0#5) 5#64).readGpr 0#5 = 5#64) := by decide

/-- PreRunCheck and StepChecksWhereNoRunIsActive: each clause. -/
theorem witness_pre_run :
    ((small .l1 [(0#5, 5#64)]).readGpr 0#5 ≠ 0#64 ∧ (small .l1 [(0#5, 5#64)]).running = false) ∧
    ((small .l1 []).readGpr 0#5 = 0#64 ∧ (small .l1 []).running = false) ∧ missState.started.running = true ∧
    (refusalOf (startRun (small .l1 [(0#5, 5#64)]).started)).isSome = true ∧
    faultOf (step State.reset.started) = some (.fetchUnavailable 0#64) := by decide

/-- The last clauses of StaleCellRunsUntilInvalidated: the least range that covers the bytes of the key 0. -/
theorem witness_covering_range :
    (0 : Int) ≤ (hitState.pc.toNat : Int) - (hitState.pc.toNat % 2 : Nat) ∧ (hitState.pc.toNat : Int) + 4 ≤ 4 := by decide

/-- UnrecognizedModelIsFatal: an absent name, given or by default. ConstructionZeroesTheRegisterFile: a name by default, after a
record of another name. -/
theorem witness_construction :
    (∀ d ∈ ([⟨"A", .l1, .r1, .standard⟩] : List Descriptor), d.name ≠ (some "B" : Option String).getD "A") ∧
    (∀ d ∈ ([⟨"A", .l1, .r1, .standard⟩] : List Descriptor), d.name ≠ (none : Option String).getD "B") ∧
    (⟨"B", .l3, .r1, .standard⟩ : Descriptor).name = (none : Option String).getD "B" ∧
    (⟨"B", .l3, .r1, .standard⟩ : Descriptor).name ≠ "" := by decide

/-- RegistrySetThenGet: two names that differ. -/
theorem witness_registry : RegName.gpr 1#5 ≠ .gpr 0#5 ∧ RegName.hi ≠ .lo := by decide

/-- AddressTranslatorSegments: both ends of each range, and the addresses next to them; no address is in two ranges. -/
theorem witness_segments :
    (0xFFFFFFFF80000000 ≤ (0xFFFFFFFF80000000#64).toNat ∧ (0xFFFFFFFFBFFFFFFF#64).toNat < 0xFFFFFFFFC0000000) ∧
    (0xA800000000000000 ≤ (0xA800000000000000#64).toNat ∧ (0xA8000FFFFFFFFFFF#64).toNat ≤ 0xA8000FFFFFFFFFFF) ∧
    (¬ (0xC0000000#64).toNat % 2 ^ 32 < 0xC0000000 ∧ 0x80000000 ≤ (0x1234567880001000#64).toNat % 2 ^ 32) ∧
    (∀ n, 0xFFFFFFFF80000000 ≤ n → ¬ n ≤ 0xA8000FFFFFFFFFFF) := by
  refine ⟨by decide, by decide, by decide, fun n h => by omega⟩

/-- InstancesAreIndependent: one instance at the same place of two lists. -/
theorem witness_instances :
    ([hitState, missState] : List State)[1]? = some missState ∧ ([State.reset, missState] : List State)[1]? = some missState := by
  decide

/-- The groups of instructions that raise the condition do so on a state that can run. -/
theorem witness_raises :
    [Instr.movci 1#5 2#5 3#5 0#5, .mfhi 0#5 0#5 2#5 0#5, .j 0x40#26, .syscall 0#5 0#5 0#5 0#5, .lw 29#5 31#5 0#16,
      .cop0 16#5 0#5 0#5 0#5 24#6, .unrecognized 0xeea68f31#32].all
      (fun i => faultOf (exec i State.reset) = some (.unimplementedInstruction 0#64 [.unimplemented] State.reset)) = true := by decide

end Sys2Proof.Tests
end

section
/-! PROOFS. The life of a cache entry (10_state.md R23; 41_translator.md R79): what each transaction does to the entry of a key. -/

namespace Sys2Proof.Machine

/-! ### What executing a cell leaves in the cache -/

theorem State.lookup_congr {s t : State} (h : s.cache = t.cache) (k : Word) : s.lookup k = t.lookup k := by
  rw [State.lookup, State.lookup, h]

/-- What any cell's execution answers, well-formed or not: the state itself, one register written, the condition, or the fault of
a malformed cell. -/
theorem executeCell_cases (c : Cell) (s : State) :
    executeCell c s = .next s ∨ (∃ r v, executeCell c s = .next (s.writeGpr r v)) ∨
    executeCell c s = .fault (.unimplementedInstruction s.pc c.reasons s.endRun) ∨
    executeCell c s = .fault (.malformedCell s.pc) := by
  cases h : executeCell c s with
  | next t =>
    obtain rfl | ⟨r, v, rfl⟩ := executeCell_next h
    · exact .inl rfl
    · exact .inr (.inl ⟨r, v, rfl⟩)
  | fault r | refused r =>
    unfold executeCell onNone onRegRegReg onRegRegSImm onRegRegUImm onRegSImm raiseUnimplemented at h
    split at h
    case h_11 => cases h <;> simp
    all_goals split at h <;> cases h <;> simp

/-- A cell that runs on a hit leaves the cache as it is, malformed or not. -/
theorem cache_stateAfter_executeCell (c : Cell) (s : State) :
    (stateAfter s (andAdvance (executeCell c s.started))).cache = s.cache := by
  obtain h | ⟨r, v, h⟩ | h | h := executeCell_cases c s.started <;> simp [h]

/-- An instruction leaves the cache of the state it runs on: a cell that a translation makes is not malformed, so no path falls
back to the state `s` of before the fill. -/
theorem cache_stateAfter_exec (i : Instr) (s u : State) :
    (stateAfter s (andAdvance (exec i u))).cache = u.cache := by
  obtain ⟨c, hc, hexec⟩ := exec_eq_executeCell i u.desc
  rw [hexec u rfl]
  obtain h | ⟨r, v, -, h⟩ | ⟨-, h⟩ := executeCell_wf hc u <;> simp [h]

/-! ### What a step does to the cache -/

/-- A step keeps the cache, or fills the entry of `pc` after a miss with the fetched word and its translation, whether it then
completes, faults or is refused. -/
theorem cache_stateAfter_step (s : State) :
    (stateAfter s (step s)).cache = s.cache ∨
    ∃ w, s.lookup s.pc = none ∧ fetchWord s.mem s.endian s.pc = some w ∧
      (stateAfter s (step s)).cache = (s.fill s.pc ⟨w, (translateWord s.desc w s.pc).1⟩).cache := by
  by_cases hr : s.ready
  · cases hl : s.lookup s.pc with
    | some e => exact .inl (by rw [step_hit hr hl, cache_stateAfter_executeCell])
    | none =>
      cases hw : fetchWord s.mem s.endian s.pc with
      | none => exact .inl (by simp [step_unavailable hr hl hw])
      | some w =>
        refine .inr ⟨w, rfl, rfl, ?_⟩
        rw [step_miss hr hl hw, stepMiss, cache_stateAfter_exec]
        simp
  · exact .inl (by simp [step_not_ready hr])

/-- The entry of a key after a step: the one before it, or a new one at `pc`. -/
theorem lookup_stateAfter_step (s : State) (k : Word) :
    (stateAfter s (step s)).lookup k = s.lookup k ∨
    ∃ w, k = s.pc ∧ s.lookup k = none ∧ fetchWord s.mem s.endian s.pc = some w ∧
      (stateAfter s (step s)).lookup k = some ⟨w, (translateWord s.desc w s.pc).1⟩ := by
  obtain h | ⟨w, hl, hw, h⟩ := cache_stateAfter_step s
  · exact .inl (State.lookup_congr h k)
  · rw [State.lookup_congr h k]
    by_cases hk : k = s.pc
    · subst hk
      exact .inr ⟨w, rfl, hl, hw, State.lookup_fill_same s _ _⟩
    · exact .inl (State.lookup_fill_other s _ hk)

/-! ### What a transaction does to the cache -/

/-- The transactions that may remove an entry (10_state.md R23). -/
def Transaction.removesEntries : Transaction → Prop
  | .reset | .invalidateRange _ _ | .invalidateAddress _ => True
  | _ => False

theorem cache_stateAfter_startRun (s : State) : (stateAfter s (startRun s)).cache = s.cache := by
  rw [startRun_eq]
  split <;> simp

theorem lookup_invalidateRange_eq_or_none (s : State) (lo hi : Int) (k : Word) :
    (s.invalidateRange lo hi).lookup k = s.lookup k ∨ (s.invalidateRange lo hi).lookup k = none := by
  rw [State.lookup_invalidateRange]
  split
  · exact .inr rfl
  · exact .inl rfl

/-- The entry of a key after any transaction: the one before it, none after a reset or an invalidation, or a new one at `pc` after
a step that missed. -/
theorem lookup_stateAfter_perform (t : Transaction) (s : State) (k : Word) :
    (stateAfter s (perform t s)).lookup k = s.lookup k ∨
    (t.removesEntries ∧ (stateAfter s (perform t s)).lookup k = none) ∨
    (t = .driverStep ∧ ∃ w, k = s.pc ∧ s.lookup k = none ∧ fetchWord s.mem s.endian s.pc = some w ∧
      (stateAfter s (perform t s)).lookup k = some ⟨w, (translateWord s.desc w s.pc).1⟩) := by
  cases t with
  | driverStep => exact (lookup_stateAfter_step s k).imp_right fun h => .inr ⟨rfl, h⟩
  | reset => exact .inr (.inl ⟨trivial, rfl⟩)
  | invalidateRange lo hi => exact (lookup_invalidateRange_eq_or_none s lo hi k).imp_right fun h => .inl ⟨trivial, h⟩
  | invalidateAddress a =>
    exact (lookup_invalidateRange_eq_or_none s a (a + 1) k).imp_right fun h => .inl ⟨trivial, h⟩
  | startRun => exact .inl (State.lookup_congr (cache_stateAfter_startRun s) k)
  | registrySet r v => exact .inl (State.lookup_congr (registrySet_cache s r v) k)
  | endRun | setModelName _ | externalWrite _ _ => exact .inl rfl

/-- Settles O43, from what each transaction does to the entry of a key: only a reset or an invalidation takes one away, and an entry
that comes is the fill of a step that missed. -/
theorem entriesComeByFillAndGoByInvalidation : Obligations.EntriesComeByFillAndGoByInvalidation := by
  intro t s k e
  constructor
  · intro hs hreset hrange haddress
    obtain h | ⟨hremoves, -⟩ | ⟨-, w, -, hnone, -⟩ := lookup_stateAfter_perform t s k
    · exact h.trans hs
    · cases t with
      | reset => exact absurd rfl hreset
      | invalidateRange lo hi => exact absurd rfl (hrange lo hi)
      | invalidateAddress a => exact absurd rfl (haddress a)
      | _ => exact hremoves.elim
    · simp [hs] at hnone
  · intro hs hnew
    obtain h | ⟨-, h⟩ | ⟨ht, w, hk, -, hw, h⟩ := lookup_stateAfter_perform t s k
    · simp [h, hs] at hnew
    · simp [h] at hnew
    · cases h.symm.trans hnew
      exact ⟨ht, hk, hw, rfl⟩

end Sys2Proof.Machine
end

section
/-! PROOFS. Memory outside the instructions (20_memory.md): no instruction accesses it (R28), the entries an invalidation removes
(R41), and the two segments of the Address Translator (R33 to R36). -/

namespace Sys2Proof.Machine

/-! ### Instructions and the external memory -/

/-- An outcome with another memory in the state it carries, and the same otherwise. -/
def outcomeWithMem (m : Memory) : Outcome → Outcome
  | .next t => .next { t with mem := m }
  | .fault (.unimplementedInstruction k r a) => .fault (.unimplementedInstruction k r { a with mem := m })
  | .refused (.preRunRefused a) => .refused (.preRunRefused { a with mem := m })
  | o => o

/-- Executing a cell commutes with replacing the memory: every operation reads registers only, and its write keeps the memory. -/
theorem executeCell_withMem (c : Cell) (s : State) (m : Memory) :
    executeCell c { s with mem := m } = outcomeWithMem m (executeCell c s) := by
  obtain ⟨op, operands, reasons⟩ := c
  cases op with
  | nop => simp only [executeCell, onNone]; split <;> rfl
  | addTrunc32 | add64 => simp only [executeCell, onRegRegReg]; split <;> rfl
  | addImmTrunc32 | addImm64 => simp only [executeCell, onRegRegSImm]; split <;> rfl
  | andImm | orImm | xorImm | shiftLeftImmTrunc32 => simp only [executeCell, onRegRegUImm]; split <;> rfl
  | setImm => simp only [executeCell, onRegSImm]; split <;> rfl
  | invalid => rfl

/-- Settles O30: an instruction is the execution of a cell that the descriptor fixes, and that commutes with replacing the
memory. -/
theorem execAccessesNoMemory : Obligations.ExecAccessesNoMemory := by
  intro i s m
  obtain ⟨c, hc, hexec⟩ := exec_eq_executeCell i s.desc
  rw [hexec { s with mem := m } rfl, hexec s rfl, executeCell_withMem]
  obtain h | ⟨r, v, -, h⟩ | ⟨-, h⟩ := executeCell_wf hc s <;> rw [h] <;> rfl

/-! ### Invalidation -/

/-- A key's bytes overlap a range when some address is in both: the greater of the two lower ends, if any is. -/
theorem keyOverlaps_iff (key : Nat) (lo hi : Int) :
    keyOverlaps key lo hi = true ↔
      ∃ a : Int, lo ≤ a ∧ a < hi ∧ ((key - key % 2 : Nat) : Int) ≤ a ∧
        a < ((key - key % 2 : Nat) : Int) + (if key % 2 = 1 then 2 else 4) := by
  rw [keyOverlaps, decide_eq_true_iff]
  constructor
  · intro h
    obtain ⟨hend, hhi⟩ := lt_min_iff.mp h
    exact ⟨_, le_max_right _ _, hhi, le_max_left _ _, hend⟩
  · rintro ⟨a, hlo, hhi, hstart, hend⟩
    exact (max_le hstart hlo).trans_lt (lt_min hend hhi)

/-- Settles O42: the lookup after an invalidation asks whether the key's bytes overlap the range, which is to share an address
with it. -/
theorem invalidateRemovesOverlappingEntries : Obligations.InvalidateRemovesOverlappingEntries := by
  intro s lo hi k
  rw [← keyOverlaps_iff, State.lookup_invalidateRange]
  exact ⟨fun h => if_pos h, fun h => if_neg h, fun _ => rfl,
    ⟨rfl, rfl, rfl, rfl, rfl, rfl, rfl, rfl, rfl, fun _ => rfl⟩, fun _ => rfl⟩

/-! ### The Address Translator -/

/-- The first segment in 64-bit mode (20_memory.md R34). -/
theorem translateAddressAt_w64_first {a : Word} (hlo : 0xFFFFFFFF80000000 ≤ a.toNat) (hhi : a.toNat < 0xFFFFFFFFC0000000) :
    ∃ pa, translateAddressAt .w64 a = some (pa, true) ∧ pa.toNat = a.toNat % 2 ^ 29 := by
  refine ⟨a &&& 0x1FFFFFFF#64, if_pos ⟨hlo, hhi⟩, ?_⟩
  exact (BitVec.toNat_and ..).trans (Nat.and_two_pow_sub_one_eq_mod a.toNat 29)

/-- The second segment in 64-bit mode (20_memory.md R35); it lies below the first. -/
theorem translateAddressAt_w64_second {a : Word} (hlo : 0xA800000000000000 ≤ a.toNat) (hhi : a.toNat ≤ 0xA8000FFFFFFFFFFF) :
    ∃ pa, translateAddressAt .w64 a = some (pa, true) ∧ pa.toNat = a.toNat % 2 ^ 44 := by
  have hfirst : ¬ (0xFFFFFFFF80000000#64 ≤ a ∧ a < 0xFFFFFFFFC0000000#64) := by bv_omega
  refine ⟨a &&& 0x0FFFFFFFFFFF#64, (if_neg hfirst).trans (if_pos ⟨hlo, hhi⟩), ?_⟩
  exact (BitVec.toNat_and ..).trans (Nat.and_two_pow_sub_one_eq_mod a.toNat 44)

/-- Outside both segments there is no translation (20_memory.md R36). -/
theorem translateAddressAt_w64_miss {a : Word}
    (hfirst : ¬ (0xFFFFFFFF80000000 ≤ a.toNat ∧ a.toNat < 0xFFFFFFFFC0000000))
    (hsecond : ¬ (0xA800000000000000 ≤ a.toNat ∧ a.toNat ≤ 0xA8000FFFFFFFFFFF)) : translateAddressAt .w64 a = none :=
  (if_neg hfirst).trans (if_neg hsecond)

/-- In 32-bit mode the sign-extended address is matched as in 64-bit mode (20_memory.md R33). -/
theorem translateAddressAt_w32 (va : Word) : translateAddressAt .w32 va = translateAddressAt .w64 (truncSext32 va) := rfl

/-- Sign extension keeps the lower half of the 32-bit addresses and moves the upper half to the top of the address space. -/
theorem toNat_truncSext32 (va : Word) :
    (truncSext32 va).toNat =
      va.toNat % 2 ^ 32 + if 0x80000000 ≤ va.toNat % 2 ^ 32 then 0xFFFFFFFF00000000 else 0 := by
  simp only [truncSext32, BitVec.toNat_signExtend, BitVec.toNat_setWidth, BitVec.msb_eq_decide, decide_eq_true_eq]
  exact congrArg (· + _) (Nat.mod_eq_of_lt (by omega))

/-- Settles O57: each segment from its range of numbers, and 32-bit mode from where sign extension puts an address, which is
never in the second segment. -/
theorem addressTranslatorSegments : Obligations.AddressTranslatorSegments := by
  intro va
  have hext := toNat_truncSext32 va
  refine ⟨fun ⟨hlo, hhi⟩ => translateAddressAt_w64_first hlo hhi, fun ⟨hlo, hhi⟩ => translateAddressAt_w64_second hlo hhi,
    translateAddressAt_w64_miss, ?_, ?_, translateAddressAt_w32 va, fun _ => rfl⟩
  · rintro ⟨hlo, hhi⟩
    rw [if_pos hlo] at hext
    obtain ⟨pa, heq, hpa⟩ := translateAddressAt_w64_first (a := truncSext32 va) (by omega) (by omega)
    exact ⟨pa, (translateAddressAt_w32 va).trans heq, by omega⟩
  · intro hmiss
    rw [translateAddressAt_w32]
    exact translateAddressAt_w64_miss (by split at hext <;> omega) (by split at hext <;> omega)

end Sys2Proof.Machine
end

section
/-! PROOFS. The variant and the translator (30_encoding.md R56; 41_translator.md R68): what a translation asks of a processor
answers the same on every variant. -/

namespace Sys2Proof.Machine

/-- Every row of the default `OpMap` is the same for all variants (30_encoding.md R56; D22). -/
theorem opMap_eq_of_variant (primary : BitVec 6) (secondary : Option (BitVec 6)) (v v' : Variant) :
    opMap primary secondary v = opMap primary secondary v' := rfl

/-- The legality checks ask for the ISA level and revision only (41_translator.md R73, R74). -/
theorem illegalReasons_withVariant (sp : OpSpec) (d : Descriptor) (v : Variant) :
    illegalReasons sp { d with variant := v } = illegalReasons sp d := rfl

theorem illegalDiags_withVariant (sp : OpSpec) (d : Descriptor) (v : Variant) (w : InstrWord) (vaddr : Word) :
    illegalDiags sp { d with variant := v } w vaddr = illegalDiags sp d w vaddr := rfl

theorem rowCell_withVariant (d : Descriptor) (v : Variant) (sp : OpSpec) (dest : RegIdx) (ops : List OperandBinding) :
    rowCell { d with variant := v } sp dest ops = rowCell d sp dest ops := by
  rw [rowCell, rowCell, illegalReasons_withVariant]

/-- The placeholder asks nothing of the processor; the fields of a word select the same row, which makes the same cell and
diagnostics. -/
theorem translateClass_withVariant (d : Descriptor) (v : Variant) (w : InstrWord) (c : Classification) :
    translateClass { d with variant := v } w c = translateClass d w c := by
  cases c with
  | compressedPlaceholder halfword vaddr => rfl
  | normal f =>
    simp only [translateClass, opMap_eq_of_variant f.primary f.secondary v d.variant, rowCell_withVariant,
      illegalDiags_withVariant]

/-- Settles O16: a translation is that of the word's classification, which the decoder makes without a processor. -/
theorem translationIgnoresVariant : Obligations.TranslationIgnoresVariant :=
  fun d v w vaddr => translateClass_withVariant d v w (decode w vaddr)

end Sys2Proof.Machine
end

section
/-! PROOFS. The decoder (40_decoder.md R63, R64, R66; 30_encoding.md R44, R52 to R57): the grammar, the fields, and
the name of every word. -/

namespace Sys2Proof.Machine

/-! ### The grammar -/

theorem bitZero_of_odd {a : Word} (h : a.toNat % 2 = 1) : a.getLsbD 0 = true := by
  rw [bitZero_eq, decide_eq_true h]

theorem bitZero_of_even {a : Word} (h : a.toNat % 2 = 0) : a.getLsbD 0 = false := by
  rw [bitZero_eq, decide_eq_false (by omega)]

/-- Settles O2: bit 0 is the parity of the address, and the placeholder's halfword is the word truncated to 16 bits. -/
theorem decoderModeIsAddressBitZero : Obligations.DecoderModeIsAddressBitZero := by
  intro w vaddr
  refine ⟨fun hodd => ?_, fun heven => decode_normal (bitZero_of_even heven)⟩
  rw [decode_compressed (bitZero_of_odd hodd), BitVec.setWidth_eq_extractLsb' (by decide)]

/-! ### The fields -/

/-- A field of a word as a number: shifting right divides, and the width is the modulus. -/
theorem toNat_field (w : InstrWord) (start len : Nat) :
    (w.extractLsb' start len).toNat = w.toNat / 2 ^ start % 2 ^ len := by
  rw [BitVec.extractLsb'_toNat, Nat.shiftRight_eq_div_pow]

/-- The primary field is the top of the word, so its width cuts nothing off. -/
theorem toNat_primary (w : InstrWord) : (w.extractLsb' 26 6).toNat = w.toNat / 2 ^ 26 := by
  have hw := w.isLt
  rw [toNat_field]
  omega

/-- SPECIAL by its number (30_encoding.md R46). -/
theorem primary_eq_zero_iff (w : InstrWord) : w.extractLsb' 26 6 = 0#6 ↔ w.toNat / 2 ^ 26 = 0 := by
  rw [← toNat_primary, BitVec.toNat_eq]
  rfl

/-- A field at the bottom of the word is a remainder alone. -/
theorem toNat_lowField (w : InstrWord) (len : Nat) : (w.extractLsb' 0 len).toNat = w.toNat % 2 ^ len := by
  rw [toNat_field, Nat.pow_zero, Nat.div_one]

/-- Settles O3: at an even address the witness is `decodeNormal`, whose fields are bit ranges of the word. -/
theorem decoderExtractsEveryField : Obligations.DecoderExtractsEveryField := by
  intro w vaddr heven
  refine ⟨decodeNormal w vaddr, decode_normal (bitZero_of_even heven), toNat_primary w, toNat_field w 21 5, toNat_field w 16 5,
    toNat_field w 11 5, toNat_field w 6 5, toNat_lowField w 6, toNat_lowField w 16, toNat_lowField w 26, ?secondary, rfl, rfl⟩
  case secondary => simp only [decodeNormal, primary_eq_zero_iff]

/-! ### Every word from its classification -/

section
variable {v : Variant} {w : InstrWord} {a : Word}

theorem encodeGroup_decodeNormal {p : BitVec 6} (hp : (decodeNormal w a).primary = p) :
    encodeGroup p (decodeNormal w a).rs (decodeNormal w a).rt (decodeNormal w a).rd (decodeNormal w a).sa
      (decodeNormal w a).funct = w :=
  hp ▸ encodeGroup_fields w

theorem encodeSpecial_decodeNormal {c : BitVec 6} (hp : (decodeNormal w a).primary = 0#6) (hc : (decodeNormal w a).funct = c) :
    encodeSpecial (decodeNormal w a).rs (decodeNormal w a).rt (decodeNormal w a).rd (decodeNormal w a).sa c = w :=
  hc ▸ encodeGroup_decodeNormal hp

theorem encodeImm_decodeNormal {p : BitVec 6} (hp : (decodeNormal w a).primary = p) :
    encodeImm p (decodeNormal w a).rs (decodeNormal w a).rt (decodeNormal w a).imm16 = w :=
  hp ▸ encodeImm_fields w

theorem encodeRegimm_decodeNormal {c : BitVec 5} (hp : (decodeNormal w a).primary = 1#6) (hc : (decodeNormal w a).rt = c) :
    encodeImm 1#6 (decodeNormal w a).rs c (decodeNormal w a).imm16 = w :=
  hc ▸ encodeImm_decodeNormal hp

theorem encodeJump_decodeNormal {p : BitVec 6} (hp : (decodeNormal w a).primary = p) :
    encodeJump p (decodeNormal w a).target26 = w :=
  hp ▸ encodeJump_fields w

/-! ### Every word has a name -/

/-- The instruction is a name of the word on the variant: it is well-formed and encodes to the word. -/
def IsName (v : Variant) (w : InstrWord) (i : Instr) : Prop := i.wf v = true ∧ encode i = w

/-- A row of the R5900 only and what its number names elsewhere (30_encoding.md R56). -/
theorem isName_onR5900 {there elsewhere : Instr} (hthere : v = .r5900 → IsName v w there)
    (helse : v ≠ .r5900 → IsName v w elsewhere) : IsName v w (onR5900 v there elsewhere) := by
  unfold onR5900
  split
  · next h => exact hthere h
  · next h => exact helse h

/-- SLL leaves to NOP, SSNOP and EHB the words with the operands 0 and a shift of 0, 1 or 3. -/
theorem wf_sll_iff (rs rt rd : RegIdx) (sa : BitVec 5) :
    (Instr.sll rs rt rd sa).wf v = true ↔
      ¬ ((rs = 0#5 ∧ rt = 0#5 ∧ rd = 0#5) ∧ (sa = 0#5 ∨ sa = 1#5 ∨ sa = 3#5)) := by
  simp only [Instr.wf, Bool.not_eq_true', ← Bool.not_eq_true, Bool.and_eq_true, Bool.or_eq_true, beq_iff_eq,
    and_assoc, or_assoc]

/-- BEQ leaves to `b` the words of register 0 with itself. -/
theorem wf_beq_iff (rs rt : RegIdx) (imm : Imm16) : (Instr.beq rs rt imm).wf v = true ↔ ¬ (rs = 0#5 ∧ rt = 0#5) := by
  simp only [Instr.wf, Bool.not_eq_true', ← Bool.not_eq_true, Bool.and_eq_true, beq_iff_eq]

/-- An SLL word has the name SLL, or one of the three hints of 30_encoding.md R58. -/
theorem isName_nameSll
    (hw : encode (.sll (decodeNormal w a).rs (decodeNormal w a).rt (decodeNormal w a).rd (decodeNormal w a).sa) = w) :
    IsName v w (nameSll (decodeNormal w a)) := by
  unfold nameSll
  split_ifs with hz h0 h1 h3
  · obtain ⟨hrs, hrt, hrd⟩ := hz
    exact ⟨rfl, by rwa [hrs, hrt, hrd, h0] at hw⟩
  · obtain ⟨hrs, hrt, hrd⟩ := hz
    exact ⟨rfl, by rwa [hrs, hrt, hrd, h1] at hw⟩
  · obtain ⟨hrs, hrt, hrd⟩ := hz
    exact ⟨rfl, by rwa [hrs, hrt, hrd, h3] at hw⟩
  · exact ⟨(wf_sll_iff ..).2 fun ⟨_, hsa⟩ => by simp [h0, h1, h3] at hsa, hw⟩
  · exact ⟨(wf_sll_iff ..).2 fun ⟨h, _⟩ => hz h, hw⟩

/-- A BEQ word has the name BEQ, or the idiom `b` of 30_encoding.md R61. -/
theorem isName_nameBeq (hw : encode (.beq (decodeNormal w a).rs (decodeNormal w a).rt (decodeNormal w a).imm16) = w) :
    IsName v w (nameBeq (decodeNormal w a)) := by
  unfold nameBeq
  split_ifs with hz
  · obtain ⟨hrs, hrt⟩ := hz
    exact ⟨rfl, by rwa [hrs, hrt] at hw⟩
  · exact ⟨(wf_beq_iff ..).2 hz, hw⟩

/-- A word of a reserved number in the map of its group is a word of no row (30_encoding.md R57). -/
theorem isName_unrecognized
    (h : reservedPrimary v (decodeNormal w a).primary = true ∨
      ((decodeNormal w a).primary = 0#6 ∧ reservedFunct v (decodeNormal w a).funct = true) ∨
      ((decodeNormal w a).primary = 1#6 ∧ reservedRegimm v (decodeNormal w a).rt = true)) :
    IsName v w (.unrecognized (decodeNormal w a).word) := by
  refine ⟨?_, rfl⟩
  simp only [Instr.wf, reservedWord, Bool.or_eq_true, Bool.and_eq_true, beq_iff_eq, or_assoc]
  exact h

/-- The SPECIAL group (30_encoding.md R53): the row of each function number, and none for the reserved ones. -/
theorem isName_nameSpecial (hp : (decodeNormal w a).primary = 0#6) : IsName v w (nameSpecial v (decodeNormal w a)) := by
  unfold nameSpecial
  split
  case h_1 hc => exact isName_nameSll (encodeSpecial_decodeNormal hp hc)
  case h_38 hc | h_39 hc => -- MFSA and MTSA
    exact isName_onR5900 (fun hv => ⟨by simp [Instr.wf, hv], encodeSpecial_decodeNormal hp hc⟩)
      (fun hv => isName_unrecognized (.inr (.inl ⟨hp, by simp [reservedFunct, hc, hv]⟩)))
  case h_58 => -- none of the 57 numbers of a row
    refine isName_unrecognized (.inr (.inl ⟨hp, ?_⟩))
    simp only [reservedFunct, Bool.or_eq_true, beq_iff_eq, imp_false] at *
    left
    bv_omega
  all_goals exact ⟨rfl, encodeSpecial_decodeNormal hp ‹_›⟩

/-- The REGIMM group (30_encoding.md R54): the row of each code, and none for the reserved ones. -/
theorem isName_nameRegimm (hp : (decodeNormal w a).primary = 1#6) : IsName v w (nameRegimm v (decodeNormal w a)) := by
  unfold nameRegimm
  split
  case h_15 hc | h_16 hc => -- MTSAB and MTSAH
    exact isName_onR5900 (fun hv => ⟨by simp [Instr.wf, hv], encodeRegimm_decodeNormal hp hc⟩)
      (fun hv => isName_unrecognized (.inr (.inr ⟨hp, by simp [reservedRegimm, hc, hv]⟩)))
  case h_18 => -- none of the 17 codes of a row
    refine isName_unrecognized (.inr (.inr ⟨hp, ?_⟩))
    simp_all [reservedRegimm]
  all_goals exact ⟨rfl, encodeRegimm_decodeNormal hp ‹_›⟩

/-- The primary map (30_encoding.md R52): a group, the row of the number, or none. -/
theorem isName_nameNormal : IsName v w (nameNormal v (decodeNormal w a)) := by
  unfold nameNormal
  split
  case h_1 hp => exact isName_nameSpecial hp
  case h_2 hp => exact isName_nameRegimm hp
  case h_3 hp | h_4 hp | h_30 hp => -- J, JAL and JALX
    exact ⟨rfl, encodeJump_decodeNormal hp⟩
  case h_5 hp => exact isName_nameBeq (encodeImm_decodeNormal hp)
  case h_17 hp | h_18 hp | h_19 hp | h_20 hp => -- COP0, COP1, COP2 and COP1X
    exact ⟨rfl, encodeGroup_decodeNormal hp⟩
  case h_29 hp => -- MMI or SPECIAL2
    exact isName_onR5900 (fun hv => ⟨by simp [Instr.wf, hv], encodeGroup_decodeNormal hp⟩)
      (fun hv => ⟨by simp [Instr.wf, hv], encodeGroup_decodeNormal hp⟩)
  case h_31 hp => -- LQ, or reserved
    exact isName_onR5900 (fun hv => ⟨by simp [Instr.wf, hv], encodeImm_decodeNormal hp⟩)
      (fun hv => isName_unrecognized (.inl (by simp [reservedPrimary, hp, hv])))
  case h_32 hp => -- SQ or SPECIAL3
    exact isName_onR5900 (fun hv => ⟨by simp [Instr.wf, hv], encodeImm_decodeNormal hp⟩)
      (fun hv => ⟨by simp [Instr.wf, hv], encodeGroup_decodeNormal hp⟩)
  case h_64 => -- number 59
    refine isName_unrecognized (.inl ?_)
    simp only [reservedPrimary, Bool.or_eq_true, beq_iff_eq, imp_false] at *
    left
    bv_omega
  all_goals exact ⟨rfl, encodeImm_decodeNormal ‹_›⟩

end

/-- Settles O5: at an even address the decoder's instruction is the name of the word's fields, which the three opcode maps give
for every word. -/
theorem everyWordDecodesAndEncodesBack : Obligations.EveryWordDecodesAndEncodesBack := by
  intro v w vaddr heven
  rw [decodeInstr_normal heven]
  exact isName_nameNormal

end Sys2Proof.Machine
end

section
/-! PROOFS. The translator (41_translator.md R70 to R80): the rows of the default `OpMap`, the legality checks, the cells and
diagnostics of a translation, and the instructions of no row. -/

namespace Sys2Proof.Machine

/-! ### The legality checks -/

/-- Check (3) by the required level and the width (41_translator.md R74). -/
theorem fails64on32_iff (sp : OpSpec) (d : Descriptor) :
    fails64on32 sp d = true ↔ (sp.reqIsa = .l3 ∨ sp.reqIsa = .l4) ∧ bitWidth d = .w32 := by
  simp only [fails64on32, Bool.and_eq_true, Bool.or_eq_true, beq_iff_eq]

/-- Of the two revision codes only 1 is below another, and only below 2 (10_state.md R9). -/
theorem revisionCode_lt_iff (r r' : IsaRevision) : revisionCode r < revisionCode r' ↔ r' = .r2 ∧ r = .r1 := by
  cases r <;> cases r' <;> decide

/-- Check (2) by the codes of the levels and by the revisions (41_translator.md R73). -/
theorem failsLevelRev_iff (sp : OpSpec) (d : Descriptor) :
    failsLevelRev sp d = true ↔ levelCode d.isaLevel < levelCode sp.reqIsa ∨
      ((sp.reqIsa = .l32 ∨ sp.reqIsa = .l64) ∧ sp.reqRev = .r2 ∧ d.isaRevision = .r1) := by
  simp only [failsLevelRev, Bool.or_eq_true, Bool.and_eq_true, beq_iff_eq, decide_eq_true_eq, revisionCode_lt_iff]

theorem isaMismatch_mem_illegalReasons (sp : OpSpec) (d : Descriptor) :
    Reason.isaMismatch ∈ illegalReasons sp d ↔ failsLevelRev sp d = true := by
  unfold illegalReasons
  split_ifs <;> simp [*]

theorem width64On32_mem_illegalReasons (sp : OpSpec) (d : Descriptor) :
    Reason.width64On32 ∈ illegalReasons sp d ↔ fails64on32 sp d = true := by
  unfold illegalReasons
  split_ifs <;> simp [*]

/-- The reasons of a row are those of the checks it fails, in their order (41_translator.md R75). -/
theorem illegalReasons_cases (sp : OpSpec) (d : Descriptor) :
    illegalReasons sp d ∈ [[], [Reason.isaMismatch], [.width64On32], [.isaMismatch, .width64On32]] := by
  unfold illegalReasons
  split_ifs <;> simp

/-- The level check comes first, so its diagnostic does (41_translator.md R73, R75). -/
theorem head?_illegalDiags {sp : OpSpec} {d : Descriptor} (h : failsLevelRev sp d = true) (w : InstrWord) (vaddr : Word) :
    (illegalDiags sp d w vaddr).head? =
      some (.isaMismatch vaddr w sp.reqIsa sp.reqRev d.isaLevel d.isaRevision) := by
  simp [illegalDiags, h]

/-- The diagnostic of the 64-bit check is there once if the check fails, whatever the level check says. -/
theorem filter_width64On32_illegalDiags (sp : OpSpec) (d : Descriptor) (w : InstrWord) (vaddr : Word) :
    ((illegalDiags sp d w vaddr).filter (· = .width64On32 vaddr w sp.reqIsa (bitWidth d))).length =
      if fails64on32 sp d then 1 else 0 := by
  unfold illegalDiags
  split_ifs <;> simp

/-- Settles O12: the reason and the diagnostic are both there exactly where the check fails. -/
theorem sixtyFourBitCheck : Obligations.SixtyFourBitCheck := by
  intro sp d w vaddr
  rw [width64On32_mem_illegalReasons, filter_width64On32_illegalDiags]
  simp only [fails64on32_iff, and_self]

/-- Settles O13: the reason is there exactly where the check fails, and its diagnostic is the first. -/
theorem levelRevisionCheck : Obligations.LevelRevisionCheck := by
  intro sp d w vaddr
  rw [isaMismatch_mem_illegalReasons]
  exact ⟨failsLevelRev_iff sp d, fun h => head?_illegalDiags h w vaddr⟩

/-! ### The translation of a word -/

section
variable (d : Descriptor) (w : InstrWord) {a : Word}

/-- In compressed mode (41_translator.md R77). -/
theorem translateWord_compressed (h : a.getLsbD 0 = true) :
    translateWord d w a = (Cell.invalid [.unimplemented], [.unimplemented a w]) := by
  rw [translateWord, decode_compressed h]
  rfl

/-- Of a normal classification with no row (41_translator.md R72). -/
theorem translateClass_noRow (h : opMap (decodeNormal w a).primary (decodeNormal w a).secondary d.variant = none) :
    translateClass d w (.normal (decodeNormal w a)) = (Cell.invalid [.unimplemented], [.unimplemented a w]) := by
  simp only [translateClass, h]
  rfl

/-- Of a normal classification with a row (41_translator.md R75). -/
theorem translateClass_row {sp : OpSpec}
    (h : opMap (decodeNormal w a).primary (decodeNormal w a).secondary d.variant = some sp) :
    translateClass d w (.normal (decodeNormal w a)) =
      (rowCell d sp (sp.shape.dest (decodeNormal w a)) (sp.shape.bind (decodeNormal w a)), illegalDiags sp d w a) := by
  simp only [translateClass, h]
  rfl

/-- In normal mode the translation is that of the word's fields (40_decoder.md R63). -/
theorem translateWord_normal (h : a.getLsbD 0 = false) :
    translateWord d w a = translateClass d w (.normal (decodeNormal w a)) := by
  rw [translateWord, decode_normal h]

variable (a) in
/-- What a translation can be: `Invalid [Unimplemented]` with its diagnostic, or the cell of a row with the diagnostics of the
checks it fails (41_translator.md R75, R77). -/
theorem translateWord_cases :
    translateWord d w a = (Cell.invalid [.unimplemented], [.unimplemented a w]) ∨
    ∃ sp, opMap (decodeNormal w a).primary (decodeNormal w a).secondary d.variant = some sp ∧
      translateWord d w a =
        (rowCell d sp (sp.shape.dest (decodeNormal w a)) (sp.shape.bind (decodeNormal w a)), illegalDiags sp d w a) := by
  cases hmode : a.getLsbD 0 with
  | true => exact .inl (translateWord_compressed d w hmode)
  | false =>
    rw [translateWord_normal d w hmode]
    cases hrow : opMap (decodeNormal w a).primary (decodeNormal w a).secondary d.variant with
    | none => exact .inl (translateClass_noRow d w hrow)
    | some sp => exact .inr ⟨sp, rfl, translateClass_row d w hrow⟩

end

/-- Settles O10: at an even address the translation is that of the fields, and they have no row. -/
theorem unrecognizedEncodingTranslation : Obligations.UnrecognizedEncodingTranslation := by
  intro d w vaddr heven hrow
  rw [translateWord_normal d w (bitZero_of_even heven), translateClass_noRow d w hrow]
  rfl

/-- Settles O11: an odd address selects the compressed grammar, whose every word is the placeholder. -/
theorem compressedTranslation : Obligations.CompressedTranslation :=
  fun d w _ hodd => translateWord_compressed d w (bitZero_of_odd hodd)

/-! ### Reasons and diagnostics of a translation -/

/-- The cell of a row has the reasons of the checks the row fails, none if it is legal. -/
theorem reasons_rowCell (d : Descriptor) (sp : OpSpec) (dest : RegIdx) (ops : List OperandBinding) :
    (rowCell d sp dest ops).reasons = illegalReasons sp d := by
  unfold rowCell
  split_ifs with hr
  · rfl
  · exact (not_not.1 hr).symm
  · exact (not_not.1 hr).symm

/-- A well-formed cell is `Invalid` exactly where it has a reason (10_state.md R21). -/
theorem operation_eq_invalid_iff {c : Cell} (hc : c.wf = true) : c.operation = .invalid ↔ c.reasons ≠ [] := by
  unfold Cell.wf at hc
  split at hc <;> simp_all

/-- What a diagnostic of a translation says: its kind, the address and the word (41_translator.md R76). -/
def Diag.subject : Diag → Option (Reason × Word × InstrWord)
  | .unimplemented a w => some (.unimplemented, a, w)
  | .isaMismatch a w _ _ _ _ => some (.isaMismatch, a, w)
  | .width64On32 a w _ _ => some (.width64On32, a, w)
  | .preRunRefused => none

/-- The two checks give a reason and a diagnostic of its kind each, in the same order (41_translator.md R75). -/
theorem subjects_illegalDiags (sp : OpSpec) (d : Descriptor) (w : InstrWord) (vaddr : Word) :
    (illegalDiags sp d w vaddr).map Diag.subject = (illegalReasons sp d).map (fun r => some (r, vaddr, w)) := by
  unfold illegalDiags illegalReasons
  split_ifs <;> rfl

theorem subjects_translateWord (d : Descriptor) (w : InstrWord) (vaddr : Word) :
    (translateWord d w vaddr).2.map Diag.subject = (translateWord d w vaddr).1.reasons.map (fun r => some (r, vaddr, w)) := by
  obtain h | ⟨sp, -, h⟩ := translateWord_cases d w vaddr <;> rw [h]
  · rfl
  · rw [reasons_rowCell, subjects_illegalDiags]

/-- Settles O14: `Diag.subject` is what the statement asks of each diagnostic. -/
theorem oneDiagnosticPerReason : Obligations.OneDiagnosticPerReason := subjects_translateWord

/-- The cell of any word on any processor is well formed (41_translator.md R80). -/
theorem wf_translateWord (d : Descriptor) (w : InstrWord) (vaddr : Word) : (translateWord d w vaddr).1.wf = true := by
  obtain h | ⟨sp, hrow, h⟩ := translateWord_cases d w vaddr <;> rw [h]
  · rfl
  · exact rowCell_wf d sp _ _ (opMap_wf hrow _)

/-- Settles O15: an `Invalid` cell has a reason, since it is well formed, and its reasons are Unimplemented or those of the
legality checks. -/
theorem translatedCellsAreWellFormed : Obligations.TranslatedCellsAreWellFormed := by
  intro d w vaddr
  refine ⟨wf_translateWord d w vaddr, fun hop => ?_⟩
  have hne := (operation_eq_invalid_iff (wf_translateWord d w vaddr)).1 hop
  obtain h | ⟨sp, -, h⟩ := translateWord_cases d w vaddr
  · rw [h]
    exact List.mem_cons_self
  · rw [h, reasons_rowCell] at hne ⊢
    exact List.mem_cons_of_mem _ ((List.mem_cons.1 (illegalReasons_cases sp d)).resolve_left hne)

/-! ### The instructions of no row -/

/-- Is the instruction one of the names of words without a row in the default `OpMap` (41_translator.md R69, R72)? The others
are the nine rows and the other names of their words. -/
def hasNoRow : Instr → Bool
  | .sll _ _ _ _ | .addu _ _ _ _ | .daddu _ _ _ _ | .addiu _ _ _ | .andi _ _ _ | .ori _ _ _ | .xori _ _ _ | .lui _ _ _
  | .daddiu _ _ _ | .nop | .ssnop | .ehb | .zeroDest _ => false
  | _ => true

/-- An instruction of no row raises the condition (42_cell_operations.md R92). -/
theorem exec_of_hasNoRow {i : Instr} (h : hasNoRow i = true) (s : State) :
    exec i s = .fault (.unimplementedInstruction s.pc [.unimplemented] s.endRun) := by
  cases i
  case sll | addu | daddu | addiu | andi | ori | xori | lui | daddiu | nop | ssnop | ehb | zeroDest => nomatch h
  all_goals exact executeUnimplemented_eq s

/-- Every instruction of a list of instructions of no row raises the condition. -/
theorem exec_of_mem_hasNoRow {l : List Instr} (hl : l.all hasNoRow = true) {i : Instr} (hi : i ∈ l) (s : State) :
    exec i s = .fault (.unimplementedInstruction s.pc [.unimplemented] s.endRun) :=
  exec_of_hasNoRow (List.all_eq_true.1 hl i hi) s

/-- Settles O31: none of the 33 has a row. -/
theorem untranslatedArithmeticRaises : Obligations.UntranslatedArithmeticRaises :=
  fun _ _ _ _ _ s _ hi => exec_of_mem_hasNoRow rfl hi s

/-- Settles O32: none of the 12 has a row. -/
theorem multiplyDivideRaises : Obligations.MultiplyDivideRaises :=
  fun _ _ _ _ s _ hi => exec_of_mem_hasNoRow rfl hi s

/-- Settles O33: none of the 22 has a row, the idiom `b` of BEQ included. -/
theorem controlFlowRaises : Obligations.ControlFlowRaises :=
  fun _ _ _ _ _ _ s _ hi => exec_of_mem_hasNoRow rfl hi s

/-- Settles O34: none of the 18 has a row. -/
theorem systemAndTrapRaises : Obligations.SystemAndTrapRaises :=
  fun _ _ _ _ _ s _ hi => exec_of_mem_hasNoRow rfl hi s

/-- Settles O35: none of the 23 has a row. -/
theorem loadStoreRaises : Obligations.LoadStoreRaises :=
  fun _ _ _ s _ hi => exec_of_mem_hasNoRow rfl hi s

/-- Settles O36: none of the 14 groups has a row. -/
theorem coprocessorGroupsRaise : Obligations.CoprocessorGroupsRaise :=
  fun _ _ _ _ _ _ s _ hi => exec_of_mem_hasNoRow rfl hi s

/-- Settles O37: no R5900 row, no compressed halfword and no word of no row of the opcode maps has one in `OpMap`. -/
theorem variantCompressedAndOtherWordsRaise : Obligations.VariantCompressedAndOtherWordsRaise :=
  fun _ _ _ _ _ _ _ _ s _ hi => exec_of_mem_hasNoRow rfl hi s

/-! ### The decoded instruction and the translated cell of a word -/

section
variable {v : Variant} {w : InstrWord} {a : Word}

/-- The secondary field of a SPECIAL word is its function (40_decoder.md R64). -/
theorem secondary_of_special (hp : (decodeNormal w a).primary = 0#6) :
    (decodeNormal w a).secondary = some (decodeNormal w a).funct := if_pos hp

/-- Other words have no secondary field. -/
theorem secondary_of_primary {p : BitVec 6} (hp : (decodeNormal w a).primary = p) (h0 : p ≠ 0#6) :
    (decodeNormal w a).secondary = none := if_neg fun h => h0 (hp.symm.trans h)

/-- A secondary field that is present is the function. -/
theorem funct_of_secondary {c : BitVec 6} (h : (decodeNormal w a).secondary = some c) : (decodeNormal w a).funct = c := by
  simp only [decodeNormal, Option.ite_none_right_eq_some, Option.some.injEq] at h ⊢
  exact h.2

/-- A SPECIAL word of no row has the name of an instruction of no row. -/
theorem hasNoRow_nameSpecial (h : opMap 0#6 (some (decodeNormal w a).funct) v = none) :
    hasNoRow (nameSpecial v (decodeNormal w a)) = true := by
  unfold nameSpecial
  split
  case h_1 hc | h_31 hc | h_43 hc => rw [hc] at h; nomatch h -- SLL, ADDU and DADDU
  case h_38 | h_39 => unfold onR5900; split <;> rfl -- MFSA and MTSA
  all_goals rfl

/-- A REGIMM word has the name of an instruction of no row. -/
theorem hasNoRow_nameRegimm (f : Fields) : hasNoRow (nameRegimm v f) = true := by
  unfold nameRegimm
  split
  case h_15 | h_16 => unfold onR5900; split <;> rfl -- MTSAB and MTSAH
  all_goals rfl

/-- A word of no row has the name of an instruction of no row (41_translator.md R72). -/
theorem hasNoRow_nameNormal (h : opMap (decodeNormal w a).primary (decodeNormal w a).secondary v = none) :
    hasNoRow (nameNormal v (decodeNormal w a)) = true := by
  unfold nameNormal
  split
  case h_1 hp => rw [hp, secondary_of_special hp] at h; exact hasNoRow_nameSpecial h
  case h_2 => exact hasNoRow_nameRegimm _
  case h_5 => unfold nameBeq; split <;> rfl
  case h_10 hp | h_13 hp | h_14 hp | h_15 hp | h_16 hp | h_26 hp => -- the six immediate rows
    rw [hp, secondary_of_primary hp (by decide)] at h; nomatch h
  case h_29 | h_31 | h_32 => unfold onR5900; split <;> rfl -- MMI, LQ and SQ
  all_goals rfl

/-- The hints are rows of SLL with destination 0 (42_cell_operations.md R82). -/
theorem exec_nameSll (f : Fields) (s : State) : exec (nameSll f) s = executeRow specSll f.rd (bindRdRtSa f.rt f.rd f.sa) s := by
  unfold nameSll
  split_ifs with hz h0 h1 h3
  · obtain ⟨-, hrt, hrd⟩ := hz
    rw [hrt, hrd, h0]; rfl
  · obtain ⟨-, hrt, hrd⟩ := hz
    rw [hrt, hrd, h1]; rfl
  · obtain ⟨-, hrt, hrd⟩ := hz
    rw [hrt, hrd, h3]; rfl
  · rfl
  · rfl

/-- A word of a row has the name of an instruction that runs the row on the word's operands (41_translator.md R69, R70). -/
theorem exec_nameNormal_of_row {sp : OpSpec}
    (h : opMap (decodeNormal w a).primary (decodeNormal w a).secondary v = some sp) (s : State) :
    exec (nameNormal v (decodeNormal w a)) s =
      executeRow sp (sp.shape.dest (decodeNormal w a)) (sp.shape.bind (decodeNormal w a)) s := by
  unfold opMap at h
  split at h <;> cases h
  case h_1 hp hc => -- SLL
    simp only [nameNormal, hp, nameSpecial, funct_of_secondary hc]
    exact exec_nameSll _ s
  case h_2 hp hc | h_3 hp hc => -- ADDU and DADDU
    simp only [nameNormal, hp, nameSpecial, funct_of_secondary hc]
    rfl
  all_goals
    simp only [nameNormal, *]
    rfl

end

/-- `exec` of the instruction a normal word decodes to is the execution of the cell of the word's fields. -/
theorem exec_nameNormal (w : InstrWord) (a : Word) (s : State) :
    exec (nameNormal s.desc.variant (decodeNormal w a)) s =
      executeCell (translateClass s.desc w (.normal (decodeNormal w a))).1 s := by
  cases h : opMap (decodeNormal w a).primary (decodeNormal w a).secondary s.desc.variant with
  | none => rw [translateClass_noRow _ _ h, exec_of_hasNoRow (hasNoRow_nameNormal h), executeCell_invalid]
  | some sp => rw [translateClass_row _ _ h, exec_nameNormal_of_row h, executeRow]

/-- In either mode `exec` of the instruction a word decodes to is the execution of the word's translated cell. -/
theorem exec_decodeInstr (w : InstrWord) (a : Word) (s : State) :
    exec (decodeInstr s.desc.variant w a) s = executeCell (translateWord s.desc w a).1 s := by
  cases hmode : a.getLsbD 0 with
  | true => rw [decodeInstr_compressed hmode, translateWord_compressed _ _ hmode, exec_of_hasNoRow rfl, executeCell_invalid]
  | false => rw [decodeInstr_normal hmode, translateWord_normal _ _ hmode, exec_nameNormal]

/-! ### Destination 0 -/

/-- The rows of ISA level 3 are DADDIU and DADDU; the others are of level 1 (41_translator.md R69). -/
theorem reqIsa_of_opMap {p : BitVec 6} {sec : Option (BitVec 6)} {v : Variant} {sp : OpSpec} (h : opMap p sec v = some sp) :
    sp.reqIsa = if p = 25#6 ∨ sec = some 45#6 then .l3 else .l1 := by
  unfold opMap at h
  split at h <;> cases h <;> rfl

/-- The words of the rows of level 3 by their numbers. -/
theorem primary_or_secondary_iff (w : InstrWord) (a : Word) :
    ((decodeNormal w a).primary = 25#6 ∨ (decodeNormal w a).secondary = some 45#6) ↔
      (w.toNat / 2 ^ 26 = 25 ∨ (w.toNat / 2 ^ 26 = 0 ∧ w.toNat % 64 = 45)) := by
  simp only [decodeNormal, Option.ite_none_right_eq_some, Option.some.injEq, primary_eq_zero_iff]
  rw [← toNat_primary, show w.toNat % 64 = _ from (toNat_lowField w 6).symm, BitVec.toNat_eq, BitVec.toNat_eq]
  rfl

/-- A word of a translated row with destination 0 has a row, whose destination is register 0 (41_translator.md R71). -/
theorem exists_row_of_zeroDestWord {w : InstrWord} (h : zeroDestWord w = true) (a : Word) (v : Variant) :
    ∃ sp, opMap (decodeNormal w a).primary (decodeNormal w a).secondary v = some sp ∧
      sp.shape.dest (decodeNormal w a) = 0#5 := by
  simp only [zeroDestWord, Bool.or_eq_true, Bool.and_eq_true, beq_iff_eq] at h
  obtain ⟨⟨hp, (hc | hc) | hc⟩, hd⟩ | ⟨((((hp | hp) | hp) | hp) | hp) | hp, hd⟩ := h <;>
    simp only [decodeNormal, *] <;> exact ⟨_, rfl, rfl⟩

/-- A word of a row with destination 0 completes with no change where its row is legal, and otherwise raises the condition with
the row's reasons. -/
theorem exec_zeroDest {w : InstrWord} (h : zeroDestWord w = true) (s : State) :
    ∃ sp : OpSpec, sp.reqIsa = (if w.toNat / 2 ^ 26 = 25 ∨ (w.toNat / 2 ^ 26 = 0 ∧ w.toNat % 64 = 45) then .l3 else .l1) ∧
      exec (.zeroDest w) s = if illegalReasons sp s.desc = [] then .next s
        else .fault (.unimplementedInstruction s.pc (illegalReasons sp s.desc) s.endRun) := by
  obtain ⟨sp, hrow, hdest⟩ := exists_row_of_zeroDestWord h s.pc s.desc.variant
  refine ⟨sp, by simpa only [primary_or_secondary_iff] using reqIsa_of_opMap hrow, ?_⟩
  have hexec := calc exec (.zeroDest w) s
    _ = executeCell (translateClass s.desc w (.normal (decodeNormal w s.pc))).1 s := rfl
    _ = executeRow sp 0#5 (sp.shape.bind (decodeNormal w s.pc)) s := by
      rw [translateClass_row _ _ hrow, hdest, executeRow]
  split_ifs with hlegal
  · rw [hexec, executeRow_legal hlegal, if_pos rfl]
  · rw [hexec, executeRow_illegal hlegal]

/-- Settles O26: the row's required level decides which processors make the cell `Invalid` before it is elided. -/
theorem zeroDestinationIsElided : Obligations.ZeroDestinationIsElided := by
  intro w s hw
  obtain ⟨sp, hreq, hexec⟩ := exec_zeroDest hw s
  rw [hexec]
  split_ifs at hreq with h64
  · have hreasons := illegalReasons_level3 hreq s.desc
    refine ⟨?_, fun h => absurd h64 h, fun _ => ⟨?_, fun hl => ?_⟩⟩
    · rintro (hl | hl | hl) <;> rw [hreasons, hl] <;> rfl
    · rintro (hl | hl) <;> rw [hreasons, hl] <;> rfl
    · rw [hreasons, hl]; rfl
  · rw [if_pos (illegalReasons_level1 hreq s.desc)]
    exact ⟨fun _ => rfl, fun _ => rfl, fun h => absurd h h64⟩

/-! ### The step -/

/-- Settles O38: the miss of the driver's step, with the translation handed out and filled in. -/
theorem stepRunsDecodedInstruction : Obligations.StepRunsDecodedInstruction := by
  intro s w i hready hmiss hfetch hdecode _
  subst hdecode
  exact step_miss hready hmiss hfetch

/-- In a coherent cache the cell found at a key is the translation of its word there. -/
theorem cell_of_lookup {s : State} (hs : s.cacheCoherent) {k : Word} {e : Entry} (he : s.lookup k = some e) :
    e.cell = (translateWord s.desc e.word k).1 := by
  have h := hs _ (mem_of_assocGet he)
  rwa [BitVec.ofNat_toNat, BitVec.setWidth_eq] at h

/-- Settles O39: the cached cell is the translation of its word, which `exec` of the decoded instruction executes. -/
theorem cachedStepRunsCachedInstruction : Obligations.CachedStepRunsCachedInstruction := by
  intro s e hready hcoherent hhit
  rw [step_hit hready hhit, cell_of_lookup hcoherent hhit]
  exact congrArg andAdvance (exec_decodeInstr e.word s.pc s.started).symm

/-- A cell that runs on a hit hands nothing to the sink, malformed or not. -/
theorem sink_stateAfter_executeCell (c : Cell) (s : State) :
    (stateAfter s (andAdvance (executeCell c s.started))).sink = s.sink := by
  obtain h | ⟨r, v, h⟩ | h | h := executeCell_cases c s.started <;> simp [h]

/-- An instruction hands nothing to the sink of the state it runs on. -/
theorem sink_stateAfter_exec (i : Instr) (s u : State) : (stateAfter s (andAdvance (exec i u))).sink = u.sink := by
  obtain ⟨c, hc, hexec⟩ := exec_eq_executeCell i u.desc
  rw [hexec u rfl]
  obtain h | ⟨r, v, -, h⟩ | ⟨-, h⟩ := executeCell_wf hc u <;> simp [h]

section
variable {s : State} {w : InstrWord} (hready : s.ready) (hmiss : s.lookup s.pc = none)
  (hfetch : fetchWord s.mem s.endian s.pc = some w)
include hready hmiss hfetch

/-- A miss leaves the cache of the fill, whatever the instruction then does (41_translator.md R79). -/
theorem cache_stateAfter_miss :
    (stateAfter s (step s)).cache = (s.fill s.pc ⟨w, (translateWord s.desc w s.pc).1⟩).cache := by
  rw [step_miss hready hmiss hfetch, stepMiss, cache_stateAfter_exec]
  rfl

/-- A miss leaves the sink with the translation's diagnostics, whatever the instruction then does (41_translator.md R76, R78). -/
theorem sink_stateAfter_miss : (stateAfter s (step s)).sink = s.sink ++ (translateWord s.desc w s.pc).2 := by
  rw [step_miss hready hmiss hfetch, stepMiss, sink_stateAfter_exec]
  rfl

end

/-- Settles O40: a hit runs a cell and a miss an instruction, and neither touches cache or sink after the fill. -/
theorem fillOnMissOnly : Obligations.FillOnMissOnly := by
  intro s hready
  refine ⟨fun e hhit => ?hit, fun w hmiss hfetch => ?miss⟩
  case hit =>
    rw [step_hit hready hhit]
    exact ⟨cache_stateAfter_executeCell e.cell s, sink_stateAfter_executeCell e.cell s⟩
  case miss =>
    have hlookup := State.lookup_congr (cache_stateAfter_miss hready hmiss hfetch)
    exact ⟨(hlookup s.pc).trans (State.lookup_fill_same ..),
      fun k hk => (hlookup k).trans (State.lookup_fill_other s _ hk), sink_stateAfter_miss hready hmiss hfetch⟩

end Sys2Proof.Machine
end

section
/-! PROOFS. What the cells' operations leave unchanged (42_cell_operations.md R81, R92, R93): the destination of a row, the one
register an instruction may write, and the frame of a step. -/

namespace Sys2Proof.Machine

/-! ### What one register written leaves unchanged -/

/-- Writing what a register holds changes nothing, so a run that completes can always be told as one register written. -/
theorem State.writeGpr_readGpr (s : State) (r : RegIdx) : s.writeGpr r (s.readGpr r) = s := by
  simp [State.writeGpr, State.readGpr]

theorem onlyGprsDiffer_writeGpr (s : State) (r : RegIdx) (v : Word) : OnlyGprsDiffer s (s.writeGpr r v) :=
  ⟨rfl, rfl, rfl, rfl, rfl, rfl, rfl, rfl, rfl, fun _ => rfl⟩

theorem frameBut_writeGpr (s : State) (r : RegIdx) (v : Word) : FrameBut r s (s.writeGpr r v) :=
  ⟨onlyGprsDiffer_writeGpr s r v, fun _ h => s.readGpr_writeGpr_other v h⟩

/-! ### The register an instruction writes -/

section
variable {s t : State}

/-- A cell whose first operand is a register writes that register, if it completes (42_cell_operations.md R81). -/
theorem executeCell_next_dest {c : Cell} {dest : RegIdx} (hdest : c.operands.head? = some (.reg dest))
    (h : executeCell c s = .next t) : ∃ v, t = s.writeGpr dest v := by
  obtain ⟨op, operands, reasons⟩ := c
  cases op with
  | nop =>
    simp only [executeCell, onNone] at h
    split at h <;> cases h
    cases hdest
  | addTrunc32 | add64 =>
    simp only [executeCell, onRegRegReg] at h
    split at h <;> cases h
    cases hdest
    exact ⟨_, rfl⟩
  | addImmTrunc32 | addImm64 =>
    simp only [executeCell, onRegRegSImm] at h
    split at h <;> cases h
    cases hdest
    exact ⟨_, rfl⟩
  | andImm | orImm | xorImm | shiftLeftImmTrunc32 =>
    simp only [executeCell, onRegRegUImm] at h
    split at h <;> cases h
    cases hdest
    exact ⟨_, rfl⟩
  | setImm =>
    simp only [executeCell, onRegSImm] at h
    split at h <;> cases h
    cases hdest
    exact ⟨_, rfl⟩
  | invalid => cases h

/-- A row whose first operand is its destination writes at most the destination, if it completes: it is then legal, and runs its
operation or is elided (41_translator.md R70, R71). -/
theorem executeRow_next {sp : OpSpec} {dest : RegIdx} {ops : List OperandBinding} (h : executeRow sp dest ops s = .next t)
    (hops : ops.head? = some (.reg dest)) : ∃ v, t = s.writeGpr dest v := by
  by_cases hlegal : illegalReasons sp s.desc = []
  · rw [executeRow_legal hlegal] at h
    split at h
    · cases h
      exact ⟨_, (s.writeGpr_readGpr dest).symm⟩
    · exact executeCell_next_dest hops h
  · rw [executeRow_illegal hlegal] at h
    cases h

theorem frameBut_executeRow {sp : OpSpec} {dest : RegIdx} {ops : List OperandBinding} (h : executeRow sp dest ops s = .next t)
    (hops : ops.head? = some (.reg dest)) : FrameBut dest s t := by
  obtain ⟨v, rfl⟩ := executeRow_next h hops
  exact frameBut_writeGpr s dest v

/-- An instruction that completes wrote at most one general register, and not register 0 (42_cell_operations.md R81;
41_translator.md R71). -/
theorem exec_next {i : Instr} (h : exec i s = .next t) :
    (∃ r v, t = s.writeGpr r v) ∧ t.readGpr 0#5 = s.readGpr 0#5 := by
  obtain ⟨c, hc, hexec⟩ := exec_eq_executeCell i s.desc
  rw [hexec s rfl] at h
  obtain h' | ⟨r, v, hr, h'⟩ | ⟨-, h'⟩ := executeCell_wf hc s <;> cases h'.symm.trans h
  · exact ⟨⟨0#5, _, (s.writeGpr_readGpr 0#5).symm⟩, rfl⟩
  · exact ⟨⟨r, v, rfl⟩, s.readGpr_writeGpr_other v hr.symm⟩

end

/-- Settles O27: each of the six is a row with destination `rt`. -/
theorem immediateInstructionFrame : Obligations.ImmediateInstructionFrame := by
  intro rs rt imm s t i hi h
  simp only [List.mem_cons, List.not_mem_nil, or_false] at hi
  obtain rfl | rfl | rfl | rfl | rfl | rfl := hi <;> exact frameBut_executeRow h rfl

/-- Settles O28: each of the three is a row with destination `rd`. -/
theorem registerInstructionFrame : Obligations.RegisterInstructionFrame := by
  intro rs rt rd sa s t i hi h
  simp only [List.mem_cons, List.not_mem_nil, or_false] at hi
  obtain rfl | rfl | rfl := hi <;> exact frameBut_executeRow h rfl

/-- Settles O29: an instruction is a well-formed cell, which writes no register or one other than register 0. -/
theorem execWritesOnlyGeneralRegisters : Obligations.ExecWritesOnlyGeneralRegisters := by
  intro i s t h
  obtain ⟨⟨r, v, rfl⟩, hzero⟩ := exec_next h
  exact ⟨onlyGprsDiffer_writeGpr s r v, hzero⟩

/-! ### The step -/

/-- What a completed step did: it started the run, set at most the entry of `pc` in the cache, added diagnostics to the sink,
wrote at most one register, and advanced `pc`. -/
theorem step_next_eq {s t : State} (h : step s = .next t) :
    ∃ cache ds r v, (∀ k : Word, k ≠ s.pc → assocGet cache k.toNat = s.lookup k) ∧
      t = (State.writeGpr { s.started with cache := cache, sink := s.sink ++ ds } r v).advancePc := by
  obtain ⟨-, ⟨e, u, -, hu, rfl⟩ | ⟨w, u, -, -, hu, rfl⟩⟩ := step_next h
  · have hstarted : s.started = { s.started with cache := s.cache, sink := s.sink ++ [] } := by
      rw [List.append_nil]; rfl
    rw [hstarted] at hu
    obtain rfl | ⟨r, v, rfl⟩ := executeCell_next hu
    · exact ⟨s.cache, [], 0#5, _, fun _ _ => rfl, by rw [State.writeGpr_readGpr]⟩
    · exact ⟨s.cache, [], r, v, fun _ _ => rfl, rfl⟩
  · obtain ⟨⟨r, v, rfl⟩, -⟩ := exec_next hu
    exact ⟨_, _, r, v, fun k hk => s.lookup_fill_other ⟨w, (translateWord s.desc w s.pc).1⟩ hk, rfl⟩

/-- Settles O44, from what a completed step did: the run started, the entry of `pc`, the sink's end, one register and `pc`. -/
theorem stepFrame : Obligations.StepFrame := by
  intro s t h
  obtain ⟨cache, ds, r, v, hcache, rfl⟩ := step_next_eq h
  exact ⟨BitVec.toNat_add s.pc 4#64, rfl, rfl, rfl, rfl, rfl, rfl, rfl,
    ⟨r, fun i hi => State.readGpr_writeGpr_other _ v hi⟩, hcache, ds, rfl⟩

/-- Settles O45: on a hit the cell of the entry runs, and an `Invalid` one raises the condition on the started state and ends the
run. -/
theorem invalidCellRaises : Obligations.InvalidCellRaises :=
  fun _ _ _ _ hready hhit => ⟨false, step_hit hready hhit⟩

end Sys2Proof.Machine
end

section
/-! PROOFS. Contract violations and refusals (60_exceptions.md): bytes too few for an instruction (R99), construction from an unknown
name (R95), the check before a run (R96), and instances side by side (R107). -/

namespace Sys2Proof.Machine

/-! ### Bytes too few for an instruction -/

theorem consumedLength_eq (vaddr : Word) : consumedLength vaddr = if vaddr.toNat % 2 = 1 then 2 else 4 := by
  simp only [consumedLength, pcmode, bitZero_eq, decide_eq_true_eq]

/-- The decoder's two patterns ask for as many bytes as the address's mode consumes, and a shorter list matches neither. -/
theorem decodeBytes_short {vaddr : Word} {bytes : List Byte} (h : bytes.length < consumedLength vaddr) (v : Variant) (e : Endian) :
    decodeBytes v e vaddr bytes = .error (.tooFewBytes (consumedLength vaddr) bytes.length) := by
  unfold consumedLength pcmode at h ⊢
  unfold decodeBytes
  split at h
  · next hodd =>
    rw [if_pos hodd, if_pos hodd]
    match bytes, h with
    | [], _ | [_], _ => rfl
  · next heven =>
    rw [if_neg heven, if_neg heven]
    match bytes, h with
    | [], _ | [_], _ | [_, _], _ | [_, _, _], _ => rfl

/-- The Disassembler passes the decoder's rejection on. -/
theorem disassemble_of_decodeBytes_error {v : Variant} {e : Endian} {vaddr : Word} {bytes : List Byte} {r : DecodeReject}
    (h : decodeBytes v e vaddr bytes = .error r) : disassemble v e vaddr bytes = .error r := by
  rw [disassemble, h]

/-- Settles O7: the decoder rejects a list shorter than the consumed length, and the Disassembler decodes first. -/
theorem tooFewBytesAreRejected : Obligations.TooFewBytesAreRejected := by
  intro v e vaddr bytes hshort
  have hreject := decodeBytes_short hshort v e
  exact ⟨consumedLength_eq vaddr, hreject, disassemble_of_decodeBytes_error hreject⟩

/-! ### Construction from an unknown name -/

/-- A name that no record has is found in no catalog; the empty name is found in none anyway (log 24). -/
theorem lookupModel_eq_none {catalog : List Descriptor} {name : String} (h : ∀ d ∈ catalog, d.name ≠ name) :
    lookupModel catalog name = none := by
  unfold lookupModel
  split
  · rfl
  · exact List.find?_eq_none.mpr fun d hd => by simpa using h d hd

/-- Settles O54: the lookup of the wanted name fails, and construction with it. -/
theorem unrecognizedModelIsFatal : Obligations.UnrecognizedModelIsFatal := by
  intro catalog dflt name e habsent
  simp only [construct, lookupModel_eq_none habsent]

/-! ### The check before a run -/

theorem startRun_of_zero {s : State} (h : s.readGpr 0#5 = 0#64) : startRun s = .next s.started := if_pos h

theorem startRun_of_nonzero {s : State} (h : s.readGpr 0#5 ≠ 0#64) :
    startRun s = .refused (.preRunRefused (s.emit [.preRunRefused]).endRun) := if_neg h

@[simp] theorem registrySet_readGpr_same (s : State) (i : RegIdx) (v : Word) : (registrySet s (.gpr i) v).readGpr i = v :=
  s.readGpr_writeGpr_same i v

/-- Settles O51: the check asks for `x[0]` only, which a reset and a registry write of 0 make 0. -/
theorem preRunCheck : Obligations.PreRunCheck := fun s =>
  ⟨startRun_of_nonzero, startRun_of_zero, ⟨_, startRun_of_zero (processorReset_readGpr s 0#5)⟩,
    ⟨_, startRun_of_zero (registrySet_readGpr_same s 0#5 0#64)⟩⟩

/-! ### Instances side by side -/

/-- A transaction on an instance that is there leaves its own outcome's state at that place, and every other place as it was. -/
theorem performOn_spec {k : Nat} {xs : List State} {s : State} (h : xs[k]? = some s) (t : Transaction) :
    ∃ xs', performOn k t xs = some xs' ∧ xs'[k]? = some (stateAfter s (perform t s)) ∧ ∀ j, j ≠ k → xs'[j]? = xs[j]? := by
  obtain ⟨hk, -⟩ := List.getElem?_eq_some_iff.mp h
  refine ⟨xs.set k (stateAfter s (perform t s)), ?_, List.getElem?_set_self hk, fun _ hj => List.getElem?_set_ne hj.symm⟩
  rw [performOn, h]

/-- Settles O58: in both lists place `k` gets what the same instance answers to the same transaction. -/
theorem instancesAreIndependent : Obligations.InstancesAreIndependent := by
  intro k t xs ys s hx hy
  obtain ⟨xs', hperformX, hxk, hxother⟩ := performOn_spec hx t
  obtain ⟨ys', hperformY, hyk, hyother⟩ := performOn_spec hy t
  exact ⟨xs', ys', hperformX, hperformY, hxk.trans hyk.symm, hxk, hxother, hyother⟩

end Sys2Proof.Machine
end

section
/-! PROOFS. Reset and hazards (70_reset_and_hazards.md): every transaction keeps the invariant of the machine (R113), and a stale
cell runs until it is invalidated or the cache is cleared (R112). -/

namespace Sys2Proof.Machine

/-! ### The invariant and the updates of the state -/

section
variable {s : State}

/-- A run that is over asks nothing of `x[0]`. -/
theorem State.Inv.endRun (h : s.Inv) : s.endRun.Inv := by
  obtain ⟨hmem, hcache, hcoherent, -, hpage⟩ := h
  exact ⟨hmem, hcache, hcoherent, Bool.noConfusion, hpage⟩

/-- Where a run is active or can start, `x[0]` is 0, by the invariant or by the check. -/
theorem State.Inv.started (h : s.Inv) (hready : s.ready) : s.started.Inv := by
  obtain ⟨hmem, hcache, hcoherent, hzero, hpage⟩ := h
  exact ⟨hmem, hcache, hcoherent, fun _ => hready.elim hzero id, hpage⟩

theorem State.Inv.emit (h : s.Inv) (ds : List Diag) : (s.emit ds).Inv := h

theorem State.Inv.advancePc (h : s.Inv) : s.advancePc.Inv := h

theorem State.Inv.writeGpr (h : s.Inv) {r : RegIdx} (hr : r ≠ 0#5) (v : Word) : (s.writeGpr r v).Inv := by
  obtain ⟨hmem, hcache, hcoherent, hzero, hpage⟩ := h
  exact ⟨hmem, hcache, hcoherent, fun hrun => (s.readGpr_writeGpr_other v hr.symm).trans (hzero hrun), hpage⟩

/-- A filled cache is coherent where the new cell is the translation of its word at its key (70_reset_and_hazards.md R114). -/
theorem State.cacheCoherent_fill (h : s.cacheCoherent) (k : Word) (w : InstrWord) :
    (s.fill k ⟨w, (translateWord s.desc w k).1⟩).cacheCoherent := by
  intro p hp
  obtain rfl | hold := mem_assocPut hp
  · simp
  · exact h p hold

theorem State.Inv.fill (h : s.Inv) (k : Word) (w : InstrWord) : (s.fill k ⟨w, (translateWord s.desc w k).1⟩).Inv := by
  obtain ⟨hmem, hcache, hcoherent, hzero, hpage⟩ := h
  exact ⟨hmem, State.cacheWf_fill hcache k _, State.cacheCoherent_fill hcoherent k w, hzero, hpage⟩

theorem State.Inv.invalidateRange (h : s.Inv) (lo hi : Int) : (s.invalidateRange lo hi).Inv := by
  obtain ⟨hmem, hcache, hcoherent, hzero, hpage⟩ := h
  exact ⟨hmem, State.cacheWf_invalidateRange hcache lo hi, fun p hp => hcoherent p (List.mem_of_mem_filter hp), hzero, hpage⟩

/-- The empty cache meets what is asked of each entry. -/
theorem State.Inv.processorReset (h : s.Inv) : (processorReset s).Inv := by
  obtain ⟨hmem, -, -, -, hpage⟩ := h
  exact ⟨hmem, ⟨.nil, nofun⟩, nofun, Bool.noConfusion, hpage⟩

/-- A registry write, which may make `x[0]` other than 0, ends the run (log 33). -/
theorem State.Inv.registrySet (h : s.Inv) (r : RegName) (v : Word) : (registrySet s r v).Inv := by
  obtain ⟨hmem, hcache, hcoherent, -, hpage⟩ := h
  cases r with
  | pc | hi | lo | gpr i => exact ⟨hmem, hcache, hcoherent, Bool.noConfusion, hpage⟩

theorem State.Inv.externalWrite (h : s.Inv) (addr : Word) (bytes : List Byte) :
    State.Inv { s with mem := s.mem.writeBytes addr bytes } := by
  obtain ⟨hmem, hrest⟩ := h
  exact ⟨Memory.wf_writeBytes hmem addr bytes, hrest⟩

theorem State.Inv.stateAfter_startRun (h : s.Inv) : (stateAfter s (startRun s)).Inv := by
  by_cases hzero : s.readGpr 0#5 = 0#64
  · rw [startRun_of_zero hzero]
    exact h.started (.inr hzero)
  · rw [startRun_of_nonzero hzero]
    exact (h.emit _).endRun

/-! ### The invariant and the step -/

/-- A well-formed cell writes no register or one other than register 0, or raises the condition, which ends the run. The state
`s` of before is not left, since the cell is not malformed. -/
theorem State.Inv.stateAfter_executeCell {u : State} (h : u.Inv) {c : Cell} (hc : c.wf = true) (s : State) :
    (stateAfter s (andAdvance (executeCell c u))).Inv := by
  obtain hnop | ⟨r, v, hr, hwrite⟩ | ⟨-, hraise⟩ := executeCell_wf hc u
  · rw [hnop]
    exact h.advancePc
  · rw [hwrite]
    exact (h.writeGpr hr v).advancePc
  · rw [hraise]
    exact h.endRun

/-- An instruction is the execution of a well-formed cell. -/
theorem State.Inv.stateAfter_exec {u : State} (h : u.Inv) (i : Instr) (s : State) :
    (stateAfter s (andAdvance (exec i u))).Inv := by
  obtain ⟨c, hc, hexec⟩ := exec_eq_executeCell i u.desc
  rw [hexec u rfl]
  exact h.stateAfter_executeCell hc s

/-- A step leads from the invariant to it, whether it completes, faults or is refused: the cell of a hit is a translation, so well
formed, and a miss executes on a coherently filled state. -/
theorem State.Inv.stateAfter_step (h : s.Inv) : (stateAfter s (step s)).Inv := by
  by_cases hready : s.ready
  · have hstarted := h.started hready
    cases hl : s.lookup s.pc with
    | some e =>
      have hcell : e.cell.wf = true := by
        obtain ⟨-, -, hcoherent, -, -⟩ := h
        rw [cell_of_lookup hcoherent hl]
        exact wf_translateWord s.desc e.word s.pc
      rw [step_hit hready hl]
      exact hstarted.stateAfter_executeCell hcell s
    | none =>
      cases hw : fetchWord s.mem s.endian s.pc with
      | some w =>
        rw [step_miss hready hl hw]
        exact ((hstarted.emit _).fill s.pc w).stateAfter_exec _ s
      | none =>
        rw [step_unavailable hready hl hw]
        exact h.endRun
  · rw [step_not_ready hready]
    exact (h.emit _).endRun

end

/-- Settles O49: each transaction is a step, the start of a run, or one update of the state, and each of these keeps the
invariant. -/
theorem transactionsKeepInvariant : Obligations.TransactionsKeepInvariant := by
  intro t s h
  cases t with
  | driverStep => exact h.stateAfter_step
  | startRun => exact h.stateAfter_startRun
  | endRun => exact h.endRun
  | reset => exact h.processorReset
  | invalidateRange lo hi => exact h.invalidateRange lo hi
  | invalidateAddress a => exact h.invalidateRange a (a + 1)
  | registrySet r v => exact h.registrySet r v
  | setModelName name => exact h
  | externalWrite addr bytes => exact h.externalWrite addr bytes

/-! ### A stale cell -/

theorem andAdvance_outcomeWithMem (m : Memory) (o : Outcome) :
    andAdvance (outcomeWithMem m o) = outcomeWithMem m (andAdvance o) := by
  rcases o with t | (_ | _ | _) | (_ | _ | _) <;> rfl

/-- A step that hits commutes with replacing the memory: it executes the cached cell without a fetch, or is refused by the check
of `x[0]`. -/
theorem step_withMem_of_hit {s : State} {e : Entry} (hhit : s.lookup s.pc = some e) (m : Memory) :
    step { s with mem := m } = outcomeWithMem m (step s) := by
  by_cases hready : s.ready
  · rw [step_hit hready hhit, ← andAdvance_outcomeWithMem, ← executeCell_withMem]
    exact step_hit (s := { s with mem := m }) hready hhit
  · rw [step_not_ready hready]
    exact step_not_ready (s := { s with mem := m }) hready

/-- A range that covers 4 bytes from a key's numeric address shares that address with the key's bytes. -/
theorem keyOverlaps_of_covers {key : Nat} {lo hi : Int} (hlo : lo ≤ (key : Int) - (key % 2 : Nat)) (hhi : (key : Int) + 4 ≤ hi) :
    keyOverlaps key lo hi = true :=
  (keyOverlaps_iff key lo hi).mpr ⟨(key - key % 2 : Nat), by omega, by omega, le_rfl, by split <;> omega⟩

/-- Settles O41: an external write replaces the memory only, with which a step that hits commutes; a covering range overlaps the
key of the cell, and a reset empties the cache. -/
theorem staleCellRunsUntilInvalidated : Obligations.StaleCellRunsUntilInvalidated := by
  intro s e addr bytes hhit
  refine ⟨s.mem.writeBytes addr bytes, rfl, hhit, ?_, fun lo hi hlo hhi => ⟨_, rfl, ?_⟩, _, rfl, rfl⟩
  · rw [step_withMem_of_hit hhit]
    rcases step s with t | (_ | _ | _) | (_ | _ | _) <;> rfl
  · rw [State.lookup_invalidateRange]
    exact if_pos (keyOverlaps_of_covers hlo hhi)

end Sys2Proof.Machine
end

section
/-! PROOFS. The encoder and the decoder (30_encoding.md R44, R52 to R61; 40_decoder.md R63 to R65; 20_memory.md R29 to R32): the
word and the bytes of an instruction decode to it, and running it is executing the cell its word translates to. -/

namespace Sys2Proof.Machine

/-! ### What the decoder makes of an encoded word -/

/-- What the decoder makes of a word of the immediate format. -/
theorem decodeNormal_encodeImm (p : BitVec 6) (rs rt : RegIdx) (imm : Imm16) (a : Word) :
    decodeNormal (encodeImm p rs rt imm) a =
      { primary := p, rs := rs, rt := rt, imm16 := imm
        rd := (encodeImm p rs rt imm).extractLsb' 11 5
        sa := (encodeImm p rs rt imm).extractLsb' 6 5
        funct := (encodeImm p rs rt imm).extractLsb' 0 6
        secondary := if p = 0#6 then some ((encodeImm p rs rt imm).extractLsb' 0 6) else none
        target26 := (encodeImm p rs rt imm).extractLsb' 0 26
        word := encodeImm p rs rt imm, vaddr := a } := by
  simp [decodeNormal]

/-- What the decoder makes of a word of the jump format. -/
theorem decodeNormal_encodeJump (p : BitVec 6) (t : BitVec 26) (a : Word) :
    decodeNormal (encodeJump p t) a =
      { primary := p, target26 := t
        rs := (encodeJump p t).extractLsb' 21 5
        rt := (encodeJump p t).extractLsb' 16 5
        rd := (encodeJump p t).extractLsb' 11 5
        sa := (encodeJump p t).extractLsb' 6 5
        funct := (encodeJump p t).extractLsb' 0 6
        secondary := if p = 0#6 then some ((encodeJump p t).extractLsb' 0 6) else none
        imm16 := (encodeJump p t).extractLsb' 0 16
        word := encodeJump p t, vaddr := a } := by
  simp [decodeNormal]

section
variable {v : Variant}

/-! ### The names with a condition -/

theorem onR5900_of_eq (hv : v = .r5900) (there elsewhere : Instr) : onR5900 v there elsewhere = there := if_pos hv

theorem onR5900_of_ne (hv : v ≠ .r5900) (there elsewhere : Instr) : onR5900 v there elsewhere = elsewhere := if_neg hv

/-- A well-formed SLL is no hint, so the fields of its word have the name SLL. -/
theorem nameSll_of_wf {f : Fields} (h : (Instr.sll f.rs f.rt f.rd f.sa).wf v = true) : nameSll f = .sll f.rs f.rt f.rd f.sa := by
  rw [wf_sll_iff] at h
  unfold nameSll
  split_ifs with hz h0 h1 h3
  · exact absurd ⟨hz, .inl h0⟩ h
  · exact absurd ⟨hz, .inr (.inl h1)⟩ h
  · exact absurd ⟨hz, .inr (.inr h3)⟩ h
  · rfl
  · rfl

/-- A well-formed BEQ is not the idiom `b`, so the fields of its word have the name BEQ. -/
theorem nameBeq_of_wf {f : Fields} (h : (Instr.beq f.rs f.rt f.imm16).wf v = true) : nameBeq f = .beq f.rs f.rt f.imm16 :=
  if_neg ((wf_beq_iff ..).1 h)

/-! ### Reserved numbers -/

/-- A reserved primary number names no row (30_encoding.md R52). -/
theorem nameNormal_of_reservedPrimary {f : Fields} (h : reservedPrimary v f.primary = true) :
    nameNormal v f = .unrecognized f.word := by
  simp only [reservedPrimary, Bool.or_eq_true, Bool.and_eq_true, beq_iff_eq, bne_iff_ne] at h
  unfold nameNormal
  obtain hp | ⟨hp, hv⟩ := h <;> rw [hp]
  · rfl
  · exact onR5900_of_ne hv ..

/-- A reserved SPECIAL function names no row (30_encoding.md R53). -/
theorem nameSpecial_of_reservedFunct {f : Fields} (h : reservedFunct v f.funct = true) :
    nameSpecial v f = .unrecognized f.word := by
  simp only [reservedFunct, Bool.or_eq_true, Bool.and_eq_true, beq_iff_eq, bne_iff_ne] at h
  unfold nameSpecial
  obtain ((((((hc | hc) | hc) | hc) | hc) | hc) | hc) | ⟨hc | hc, hv⟩ := h <;> rw [hc]
  case inr.inl | inr.inr => exact onR5900_of_ne hv .. -- MFSA and MTSA
  all_goals rfl

/-- A reserved REGIMM code, which is one that is not listed, names no row (30_encoding.md R54). -/
theorem nameRegimm_of_reservedRegimm {f : Fields} (h : reservedRegimm v f.rt = true) :
    nameRegimm v f = .unrecognized f.word := by
  unfold nameRegimm
  split
  case h_15 hc | h_16 hc => -- MTSAB and MTSAH
    exact onR5900_of_ne (by simpa [reservedRegimm, hc] using h) ..
  case h_18 => rfl
  all_goals simp [reservedRegimm, *] at h -- a listed code

/-- A word of no row is named so (30_encoding.md R57). -/
theorem nameNormal_of_reservedWord {w : InstrWord} (h : reservedWord v w = true) (a : Word) :
    nameNormal v (decodeNormal w a) = .unrecognized w := by
  simp only [reservedWord, Bool.or_eq_true, Bool.and_eq_true, beq_iff_eq] at h
  obtain (hp | ⟨hp, hc⟩) | ⟨hp, hc⟩ := h
  · exact nameNormal_of_reservedPrimary (f := decodeNormal w a) hp
  · have hprimary : (decodeNormal w a).primary = 0#6 := hp
    simp only [nameNormal, hprimary]
    exact nameSpecial_of_reservedFunct (f := decodeNormal w a) hc
  · have hprimary : (decodeNormal w a).primary = 1#6 := hp
    simp only [nameNormal, hprimary]
    exact nameRegimm_of_reservedRegimm (f := decodeNormal w a) hc

/-! ### The round trip -/

/-- The word of a well-formed 32-bit instruction has its name: the format gives the fields back, and their numbers select the
instruction's row. -/
theorem nameNormal_encode {i : Instr} (hwf : i.wf v = true) (hmode : i.isCompressed = false) (a : Word) :
    nameNormal v (decodeNormal (encode i) a) = i.canonical v := by
  cases i
  case zeroDest w => exact nameNormal_vaddr v w a 0
  case unrecognized w => exact nameNormal_of_reservedWord hwf a
  case compressed => nomatch hmode
  all_goals simp only [encode, encodeSpecial_eq_encodeGroup, decodeNormal_encodeGroup, decodeNormal_encodeImm,
    decodeNormal_encodeJump]
  case sll => exact nameSll_of_wf hwf
  case beq => exact nameBeq_of_wf hwf
  case special2 | special3 => exact onR5900_of_ne (bne_iff_ne.1 hwf) ..
  case mmiR5900 | lqR5900 | sqR5900 | mfsaR5900 | mtsaR5900 | mtsabR5900 | mtsahR5900 =>
    exact onR5900_of_eq (beq_iff_eq.1 hwf) ..
  all_goals rfl

end

/-- A halfword stands in the low half of its word (20_memory.md R31). -/
theorem extractLsb'_encode_compressed (half : Half) : (encode (.compressed half)).extractLsb' 0 16 = half := by
  rw [encode, ← BitVec.setWidth_eq_extractLsb' (by decide), BitVec.setWidth_setWidth_of_le _ (by decide), BitVec.setWidth_eq]

/-- Settles O4: in normal mode the word of the instruction has its name; in compressed mode the halfword of its word is its own. -/
theorem decodeEncodeRoundTrip : Obligations.DecodeEncodeRoundTrip := by
  intro v i vaddr hwf hmode
  cases hcompressed : i.isCompressed with
  | false => rw [decodeInstr_normal (hmode.trans hcompressed), nameNormal_encode hwf hcompressed]
  | true =>
    cases i
    case compressed half => rw [decodeInstr_compressed hmode, extractLsb'_encode_compressed]; rfl
    all_goals nomatch hcompressed

/-! ### Words written out -/

/-- Settles O1: the opcode maps are tables, which each word is looked up in. -/
theorem specWordsDecode : Obligations.SpecWordsDecode :=
  ⟨rfl, rfl, rfl, rfl, rfl, rfl, rfl, rfl, rfl⟩

/-! ### Bytes -/

section
variable {v : Variant} {vaddr : Word}

/-- In normal mode four bytes are a word (20_memory.md R29, R30). -/
theorem decodeBytes_normal (hmode : vaddr.getLsbD 0 = false) (e : Endian) (b0 b1 b2 b3 : Byte) (rest : List Byte) :
    decodeBytes v e vaddr (b0 :: b1 :: b2 :: b3 :: rest) = .ok (decodeInstr v (assembleWord e b0 b1 b2 b3) vaddr, rest) := by
  unfold decodeBytes
  rw [hmode]
  rfl

/-- In compressed mode two bytes are a halfword (20_memory.md R31). -/
theorem decodeBytes_compressed (hmode : vaddr.getLsbD 0 = true) (e : Endian) (b0 b1 : Byte) (rest : List Byte) :
    decodeBytes v e vaddr (b0 :: b1 :: rest) = .ok (decodeInstr v (assembleHalf e b0 b1) vaddr, rest) := if_pos hmode

/-- The bytes of a word, followed by anything, decode as the word does. -/
theorem decodeBytes_layoutWord (hmode : vaddr.getLsbD 0 = false) (e : Endian) (w : InstrWord) (rest : List Byte) :
    decodeBytes v e vaddr (layoutWord e w ++ rest) = .ok (decodeInstr v w vaddr, rest) := by
  obtain ⟨hbig, hlittle⟩ := assembleWord_bytes w
  cases e with
  | big => exact (decodeBytes_normal hmode ..).trans (by rw [hbig]; rfl)
  | little => exact (decodeBytes_normal hmode ..).trans (by rw [hlittle]; rfl)

/-- The bytes of a word's low half, followed by anything, decode as the word does in compressed mode, which reads no other
bit (40_decoder.md R65). -/
theorem decodeBytes_layoutHalf (hmode : vaddr.getLsbD 0 = true) (e : Endian) (w : InstrWord) (rest : List Byte) :
    decodeBytes v e vaddr (layoutHalf e w ++ rest) = .ok (decodeInstr v w vaddr, rest) := by
  obtain ⟨hbig, hlittle⟩ := assembleHalf_bytes w
  have hlow : decodeInstr v ((w.extractLsb' 0 16).setWidth 32) vaddr = decodeInstr v w vaddr := by
    rw [decodeInstr_compressed hmode, decodeInstr_compressed hmode]
    exact congrArg Instr.compressed (extractLsb'_encode_compressed _)
  cases e with
  | big => exact (decodeBytes_compressed hmode ..).trans (by rw [hbig, hlow]; rfl)
  | little => exact (decodeBytes_compressed hmode ..).trans (by rw [hlittle, hlow]; rfl)

end

/-- Settles O6: the bytes of the instruction's mode decode as its word does, which is the round trip of words. -/
theorem byteRoundTrip : Obligations.ByteRoundTrip := by
  intro v e i vaddr rest hwf hmode
  rw [← decodeEncodeRoundTrip v i vaddr hwf hmode, encodeBytes]
  cases hcompressed : i.isCompressed with
  | false => exact decodeBytes_layoutWord (hmode.trans hcompressed) e (encode i) rest
  | true => exact decodeBytes_layoutHalf (hmode.trans hcompressed) e (encode i) rest

/-! ### Running an instruction and its translation -/

/-- The other name of a row's word does what the row's own name does (log 27). -/
theorem exec_canonical (i : Instr) (s : State) : exec (i.canonical s.desc.variant) s = exec i s := by
  cases i
  case zeroDest w => exact exec_nameNormal w s.pc s
  all_goals rfl

/-- Settles O17: the instruction's word decodes to it, and running what a word decodes to is executing the word's cell. -/
theorem execAgreesWithTranslation : Obligations.ExecAgreesWithTranslation := by
  intro i s hwf hmode
  rw [← exec_canonical, ← decodeEncodeRoundTrip s.desc.variant i s.pc hwf hmode, exec_decodeInstr]

end Sys2Proof.Machine
end

section
/-! PROOFS. Addresses (20_memory.md R29 to R31; 30_encoding.md R49, R50): the fetched word as a number of its bytes, and the targets
of branches and jumps. -/

namespace Sys2Proof.Machine

/-! ### The fetch -/

section
variable {m : Memory} {pc : Word} {b0 b1 b2 b3 : Byte} (e : Endian)

/-- In compressed mode the fetch is the halfword of the two bytes at the numeric address. -/
theorem fetchWord_compressed (hmode : pcmode pc = true) (h0 : m.readByte (pcaddr pc) = some b0)
    (h1 : m.readByte (pcaddr pc + 1#64) = some b1) : fetchWord m e pc = some (assembleHalf e b0 b1) := by
  simp only [fetchWord, if_pos hmode, h0, h1]

/-- In normal mode the fetch is the word of the four bytes from the numeric address. -/
theorem fetchWord_normal (hmode : pcmode pc = false) (h0 : m.readByte (pcaddr pc) = some b0)
    (h1 : m.readByte (pcaddr pc + 1#64) = some b1) (h2 : m.readByte (pcaddr pc + 2#64) = some b2)
    (h3 : m.readByte (pcaddr pc + 3#64) = some b3) : fetchWord m e pc = some (assembleWord e b0 b1 b2 b3) := by
  simp only [fetchWord, hmode, Bool.false_eq_true, if_false, h0, h1, h2, h3]

end

/-- Two bytes in a row as a number. -/
theorem toNat_halfword (high low : Byte) :
    ((high ++ low : Half).setWidth 32).toNat = high.toNat * 2 ^ 8 + low.toNat := by
  rw [BitVec.toNat_setWidth_of_le (by decide), toNat_append_eq]

/-- Four bytes in a row as a number. -/
theorem toNat_fourBytes (b3 b2 b1 b0 : Byte) :
    (b3 ++ b2 ++ b1 ++ b0 : InstrWord).toNat =
      b3.toNat * 2 ^ 24 + b2.toNat * 2 ^ 16 + b1.toNat * 2 ^ 8 + b0.toNat := by
  simp only [toNat_append_eq]
  omega

/-- Settles O8: the fetch assembles the bytes, which are in a row in either order. -/
theorem fetchAssemblesBytesInOrder : Obligations.FetchAssemblesBytesInOrder := by
  intro m pc b0 b1 b2 b3 h0 h1
  constructor
  · intro hodd
    have hfetch := fun e => fetchWord_compressed e (bitZero_of_odd hodd) h0 h1
    exact ⟨⟨_, hfetch .big, toNat_halfword b0 b1⟩, ⟨_, hfetch .little, toNat_halfword b1 b0⟩⟩
  · intro heven h2 h3
    have hfetch := fun e => fetchWord_normal e (bitZero_of_even heven) h0 h1 h2 h3
    exact ⟨⟨_, hfetch .big, toNat_fourBytes b0 b1 b2 b3⟩, ⟨_, hfetch .little, toNat_fourBytes b3 b2 b1 b0⟩⟩

/-! ### Targets -/

/-- Clearing the lowest bits of an address as arithmetic. -/
theorem toNat_clearLow (a : Word) (k : Nat) : (a &&& ~~~BitVec.ofNat 64 (2 ^ k - 1)).toNat = a.toNat / 2 ^ k * 2 ^ k := by
  have hshift : a &&& ~~~BitVec.ofNat 64 (2 ^ k - 1) = a >>> k <<< k := by
    ext i hi
    have hmask : (BitVec.ofNat 64 (2 ^ k - 1))[i] = decide (i < k) := by
      rw [← BitVec.getLsbD_eq_getElem, BitVec.getLsbD_ofNat, decide_eq_true hi, Nat.testBit_two_pow_sub_one, Bool.true_and]
    by_cases hik : i < k
    · simp [hmask, hik]
    · simp [hmask, hik, Nat.add_sub_cancel' (not_lt.1 hik), BitVec.getLsbD_eq_getElem hi]
  have hle := Nat.div_mul_le_self a.toNat (2 ^ k)
  rw [hshift, BitVec.toNat_shiftLeft, BitVec.toNat_ushiftRight, Nat.shiftLeft_eq, Nat.shiftRight_eq_div_pow,
    Nat.mod_eq_of_lt (hle.trans_lt a.isLt)]

/-- The numeric address is `pc` without bit 0 (10_state.md R15). -/
theorem toNat_pcaddr (pc : Word) : (pcaddr pc).toNat = pc.toNat - pc.toNat % 2 := by
  have hclear := toNat_clearLow pc 1
  rw [pcaddr, show 1#64 = BitVec.ofNat 64 (2 ^ 1 - 1) from rfl, hclear]
  omega

/-- A branch target as one integer: the offset counts words (30_encoding.md R49). -/
theorem branchTarget_eq_ofInt (vaddr : Word) (imm : Imm16) :
    branchTarget vaddr imm = BitVec.ofInt 64 ((pcaddr vaddr).toNat + 4 + 4 * imm.toInt) := by
  rw [BitVec.ofInt_add, BitVec.ofInt_add, BitVec.ofInt_mul, BitVec.ofInt_natCast, BitVec.ofNat_toNat, BitVec.setWidth_eq,
    ofInt_imm16, branchTarget, BitVec.shiftLeft_eq_mul_twoPow, BitVec.mul_comm]
  rfl

/-- The field of a jump, in words, is below the bits that the target keeps (30_encoding.md R50). -/
theorem toNat_jumpTarget (vaddr : Word) (t : BitVec 26) :
    (jumpTarget vaddr t).toNat = (pcaddr vaddr + 4#64).toNat / 2 ^ 28 * 2 ^ 28 + 4 * t.toNat := by
  have hclear := toNat_clearLow (pcaddr vaddr + 4#64) 28
  have hfield : (t.setWidth 64 <<< 2).toNat = 4 * t.toNat := by
    rw [BitVec.toNat_shiftLeft, BitVec.toNat_setWidth_of_le (by decide), Nat.shiftLeft_eq]
    omega
  rw [jumpTarget, BitVec.toNat_or, show 0x0FFFFFFF#64 = BitVec.ofNat 64 (2 ^ 28 - 1) from rfl, hclear, hfield,
    ← Nat.shiftLeft_eq, Nat.shiftLeft_add_eq_or_of_lt (by omega)]

/-- Settles O9: both targets are sums on the numeric address, which is the address less its parity. -/
theorem targetArithmetic : Obligations.TargetArithmetic := by
  intro vaddr imm t
  rw [branchTarget_eq_ofInt, BitVec.toNat_ofInt, toNat_jumpTarget, BitVec.toNat_add, toNat_pcaddr]
  exact ⟨Int.toNat_of_nonneg (Int.emod_nonneg _ (by decide)), rfl⟩

end Sys2Proof.Machine
end

section
/-! PROOFS. What the translated instructions do (42_cell_operations.md R82 to R91; 41_translator.md R69 to R75): the result of each
row, and the levels on which it is legal. -/

namespace Sys2Proof.Machine

section
variable {sp : OpSpec} (dest : RegIdx) (ops : List OperandBinding) (s : State)

/-- A row of level 1 completes on every processor: elided on register 0, and otherwise its operation. -/
theorem executeRow_level1 (h : sp.reqIsa = .l1) {t : State} (hcell : executeCell ⟨sp.op, ops, []⟩ s = .next t) :
    executeRow sp dest ops s = .next (if dest = 0#5 then s else t) := by
  rw [executeRow_legal (illegalReasons_level1 h s.desc), hcell, apply_ite Host.Outcome.next]

/-- A row of level 3 completes on levels 3, 4 and 64, elided on register 0, and raises the condition on the others, register 0
or not (41_translator.md R73 to R75). -/
theorem executeRow_level3 (h : sp.reqIsa = .l3) {t : State} (hcell : executeCell ⟨sp.op, ops, []⟩ s = .next t) :
    (s.desc.isaLevel = .l3 ∨ s.desc.isaLevel = .l4 ∨ s.desc.isaLevel = .l64 →
      executeRow sp dest ops s = .next (if dest = 0#5 then s else t)) ∧
    (s.desc.isaLevel = .l1 ∨ s.desc.isaLevel = .l2 →
      executeRow sp dest ops s = .fault (.unimplementedInstruction s.pc [.isaMismatch, .width64On32] s.endRun)) ∧
    (s.desc.isaLevel = .l32 →
      executeRow sp dest ops s = .fault (.unimplementedInstruction s.pc [.width64On32] s.endRun)) := by
  have hreasons := illegalReasons_level3 h s.desc
  refine ⟨fun hl => ?legal, fun hl => ?both, fun hl => ?width⟩
  case legal =>
    have hlegal : illegalReasons sp s.desc = [] := by
      rw [hreasons]
      rcases hl with hl | hl | hl <;> rw [hl]
    rw [executeRow_legal hlegal, hcell, apply_ite Host.Outcome.next]
  case both =>
    replace hreasons : illegalReasons sp s.desc = [.isaMismatch, .width64On32] := by
      rw [hreasons]
      rcases hl with hl | hl <;> rw [hl]
    rw [executeRow_illegal (by simp [hreasons]), hreasons]
  case width =>
    rw [hl] at hreasons
    rw [executeRow_illegal (by simp [hreasons]), hreasons]

end

/-- Settles O18: the row's cell on the immediate as a 64-bit scalar. -/
theorem addiuResult : Obligations.AddiuResult := by
  intro rs rt imm s
  exact executeRow_level1 rt _ s rfl rfl

/-- Settles O19: the row's cell on the two registers. -/
theorem adduResult : Obligations.AdduResult := by
  intro rs rt rd sa s
  exact executeRow_level1 rd _ s rfl rfl

/-- Settles O20: a row of level 3 on the immediate as a 64-bit scalar. -/
theorem daddiuResult : Obligations.DaddiuResult := by
  intro rs rt imm s
  exact executeRow_level3 rt _ s rfl rfl

/-- Settles O21: a row of level 3 on the two registers. -/
theorem dadduResult : Obligations.DadduResult := by
  intro rs rt rd sa s
  exact executeRow_level3 rd _ s rfl rfl

/-- Settles O22: each row's cell on the immediate as an unsigned scalar, which is read back as its zero extension. -/
theorem logicalImmediateResults : Obligations.LogicalImmediateResults := by
  intro rs rt imm s
  rw [← ofNat_imm16]
  exact ⟨executeRow_level1 rt _ s rfl rfl, executeRow_level1 rt _ s rfl rfl, executeRow_level1 rt _ s rfl rfl⟩

/-- Settles O23: the row's cell on the 32-bit scalar, read back as the shifted immediate. -/
theorem luiResult : Obligations.LuiResult := by
  intro rs rt imm s
  rw [← luiValue_eq, ← BitVec.ofInt_toInt (x := luiValue imm)]
  exact executeRow_level1 rt _ s rfl rfl

/-- A left shift in 32 bits as arithmetic on the 64-bit source. -/
theorem shiftLeft_setWidth_eq_ofNat (x : Word) (k : Nat) : x.setWidth 32 <<< k = BitVec.ofNat 32 (x.toNat * 2 ^ k) := by
  apply BitVec.eq_of_toNat_eq
  rw [BitVec.toNat_shiftLeft, BitVec.toNat_setWidth, Nat.shiftLeft_eq, BitVec.toNat_ofNat, Nat.mod_mul_mod]

/-- Settles O24: the row's cell, whose shift is a product. -/
theorem sllResult : Obligations.SllResult := by
  intro rs rt rd sa s
  rw [← shiftLeft_setWidth_eq_ofNat]
  exact executeRow_level1 rd _ s rfl rfl

/-- SLL of register 0 into register 0 by any amount is elided (41_translator.md R71). -/
theorem executeRow_sll_zero (sa : BitVec 5) (s : State) :
    executeRow specSll 0#5 (bindRdRtSa 0#5 0#5 sa) s = .next s :=
  executeRow_level1 0#5 _ s rfl rfl

/-- Settles O25: the three are SLL words with destination 0. -/
theorem nopFormsChangeNothing : Obligations.NopFormsChangeNothing :=
  fun s => ⟨executeRow_sll_zero 0#5 s, executeRow_sll_zero 1#5 s, executeRow_sll_zero 3#5 s⟩

end Sys2Proof.Machine
end

section
/-! PROOFS. The step and its outcomes (41_translator.md R78, R79; 60_exceptions.md R96 to R103), reset, construction and the registry
(10_state.md R10, R26, R27; 70_reset_and_hazards.md R109, R110). -/

namespace Sys2Proof.Machine

/-! ### The invariant -/

/-- Settles O48: the state a completed step leaves is its next state, and every step leaves a state of the invariant. -/
theorem stepKeepsInvariant : Obligations.StepKeepsInvariant := by
  intro s t h hstep
  have hafter := h.stateAfter_step
  rwa [hstep, stateAfter_next] at hafter

/-- Settles O47: memory and cache are empty, and no run is active. -/
theorem invariantHoldsAtReset : Obligations.InvariantHoldsAtReset :=
  ⟨reset_mem_wf, ⟨.nil, nofun⟩, nofun, Bool.noConfusion, rfl⟩

/-! ### What a step executes -/

/-- A miss executes the cell it fills in (41_translator.md R78, R79). -/
theorem stepMiss_eq (s : State) (w : InstrWord) :
    stepMiss s w = andAdvance (executeCell (translateWord s.desc w s.pc).1
      ((s.emit (translateWord s.desc w s.pc).2).fill s.pc ⟨w, (translateWord s.desc w s.pc).1⟩)) :=
  congrArg andAdvance (exec_decodeInstr w s.pc
    ((s.emit (translateWord s.desc w s.pc).2).fill s.pc ⟨w, (translateWord s.desc w s.pc).1⟩))

/-- A step that can run executes one cell at `pc`, a well-formed one if the cache is coherent, or cannot fetch. -/
theorem step_of_ready {s : State} (hready : s.ready) :
    (∃ c u, (s.cacheCoherent → c.wf = true) ∧ u.pc = s.pc ∧ step s = andAdvance (executeCell c u)) ∨
    (s.lookup s.pc = none ∧ fetchWord s.mem s.endian s.pc = none ∧ step s = .fault (.fetchUnavailable s.pc)) := by
  cases hl : s.lookup s.pc with
  | some e =>
    refine .inl ⟨e.cell, s.started, fun hcoherent => ?_, rfl, step_hit hready hl⟩
    rw [cell_of_lookup hcoherent hl]
    exact wf_translateWord s.desc e.word s.pc
  | none =>
    cases hw : fetchWord s.mem s.endian s.pc with
    | some w =>
      have hstep := (step_miss hready hl hw).trans (stepMiss_eq s.started w)
      exact .inl ⟨_, _, fun _ => wf_translateWord s.desc w s.pc, by rfl, hstep⟩
    | none => exact .inr ⟨rfl, rfl, step_unavailable hready hl hw⟩

/-- Settles O46: the translation is `Invalid [Unimplemented]` with its diagnostic, and the cell filled in raises the condition. -/
theorem untranslatedWordRaisesAndIsCached : Obligations.UntranslatedWordRaisesAndIsCached := by
  intro s w hready hmiss hfetch hrow
  have htranslation : translateWord s.desc w s.pc = (Cell.invalid [.unimplemented], [.unimplemented s.pc w]) := by
    obtain hodd | hnone := hrow
    · exact compressedTranslation s.desc w s.pc hodd
    · obtain h | ⟨sp, hsome, -⟩ := translateWord_cases s.desc w s.pc
      · exact h
      · cases hnone.symm.trans hsome
  rw [step_miss hready hmiss hfetch, stepMiss_eq, State.started_desc, State.started_pc, htranslation, executeCell_invalid]
  rfl

/-- Settles O50: the step executes a well-formed cell, which completes or raises the condition. -/
theorem stepCompletesOrRaisesOneCondition : Obligations.StepCompletesOrRaisesOneCondition := by
  intro s hinv hready hcell
  obtain ⟨-, -, hcoherent, -, -⟩ := hinv
  obtain ⟨c, u, hwf, hpc, hstep⟩ | ⟨hmiss, hfetch, -⟩ := step_of_ready hready
  · rw [hstep, ← hpc]
    obtain h | ⟨r, v, -, h⟩ | ⟨hreasons, h⟩ := executeCell_wf (hwf hcoherent) u
    · exact .inl ⟨_, congrArg andAdvance h⟩
    · exact .inl ⟨_, congrArg andAdvance h⟩
    · exact .inr ⟨_, _, congrArg andAdvance h, hreasons⟩
  · simp [hmiss, hfetch] at hcell

/-! ### Where the check is made -/

theorem State.endRun_of_not_running {s : State} (h : s.running = false) : s.endRun = s := by
  rw [State.endRun, ← h]

/-- A step that can run is the driver's step of the started run. -/
theorem step_eq_driverStep {s : State} (hready : s.ready) : step s = driverStep s.started := by
  rw [step, runStep, ensureRun_ready hready, andThen_next]

/-- No step that can run is refused: a cell completes or faults. -/
theorem step_ne_refused {s : State} (hready : s.ready) (r : Refusal) : step s ≠ .refused r := by
  obtain ⟨c, u, -, -, hstep⟩ | ⟨-, -, hstep⟩ := step_of_ready hready
  · rw [hstep]
    obtain h | ⟨i, v, h⟩ | h | h := executeCell_cases c u <;> rw [h] <;> nofun
  · rw [hstep]
    nofun

/-- Every fault ends the run (log 7). -/
theorem running_stateAfter_step_fault {s : State} {r : Fault} (h : step s = .fault r) :
    (stateAfter s (step s)).running = false := by
  by_cases hready : s.ready
  · obtain ⟨c, u, -, -, hstep⟩ | ⟨-, -, hstep⟩ := step_of_ready hready
    · rw [hstep] at h ⊢
      obtain hc | ⟨i, v, hc⟩ | hc | hc := executeCell_cases c u <;> rw [hc] at h ⊢
      · cases h
      · cases h
      · rfl
      · rfl
    · rw [hstep]
      rfl
  · cases (step_not_ready hready).symm.trans h

/-- Settles O52: outside a run the step is the check, then the driver's step of the started run; inside a run there is no check. -/
theorem stepChecksWhereNoRunIsActive : Obligations.StepChecksWhereNoRunIsActive := by
  intro s
  refine ⟨fun hrun hzero => ?refused, fun hrun hzero => ?starts, fun hrun => step_ne_refused (.inl hrun), fun r h => ?start,
    fun r => running_stateAfter_step_fault⟩
  case refused =>
    rw [step_not_ready (by simp [hrun, hzero]), State.endRun_of_not_running (s := s.emit _) hrun]
    rfl
  case starts =>
    have hstarted := step_eq_driverStep (s := s.started) (.inl rfl)
    exact (step_eq_driverStep (.inr hzero)).trans hstarted.symm
  case start =>
    by_cases hzero : s.readGpr 0#5 = 0#64
    · cases (startRun_of_zero hzero).symm.trans h
    · rw [startRun_of_nonzero hzero]
      rfl

/-! ### Reset and construction -/

/-- Settles O53: the reset zeroes each register and empties the cache, and touches no other field but the flag of the run. -/
theorem resetClearsRegistersAndCache : Obligations.ResetClearsRegistersAndCache := fun s i _ =>
  ⟨rfl, processorReset_readGpr s i, rfl, rfl, rfl, rfl, rfl, rfl, rfl, rfl, rfl, rfl, rfl,
    startRun_of_zero (processorReset_readGpr s 0#5)⟩

/-- The first record of a name is the one found (10_state.md R10; log 24). -/
theorem lookupModel_eq_some {before : List Descriptor} {d : Descriptor} (hbefore : ∀ b ∈ before, b.name ≠ d.name)
    (hd : d.name ≠ "") (after : List Descriptor) : lookupModel (before ++ d :: after) d.name = some d := by
  have hnone : before.find? (fun b => b.name == d.name) = none :=
    List.find?_eq_none.mpr fun b hb => by simpa using hbefore b hb
  rw [lookupModel, if_neg hd, List.find?_append, hnone, Option.none_or, List.find?_cons_of_pos (by simp)]

/-- Settles O55: the lookup of the wanted name finds the record, and a fresh state has every register 0. -/
theorem constructionZeroesTheRegisterFile : Obligations.ConstructionZeroesTheRegisterFile := by
  intro before after d dflt name e hbefore hname hd
  have hlookup := lookupModel_eq_some (hname ▸ hbefore) hd after
  refine ⟨State.fresh d e, ?_, rfl, rfl, rfl, State.fresh_readGpr d e, rfl, rfl, rfl, rfl, rfl⟩
  simp only [construct, ← hname, hlookup]

/-! ### The registry -/

theorem registryGet_registrySet_same (s : State) (r : RegName) (v : Word) : registryGet (registrySet s r v) r = v := by
  cases r with
  | pc | hi | lo => rfl
  | gpr i => exact registrySet_readGpr_same s i v

theorem registryGet_registrySet_other (s : State) {r q : RegName} (v : Word) (h : q ≠ r) :
    registryGet (registrySet s r v) q = registryGet s q := by
  cases r <;> cases q
  case pc.pc | hi.hi | lo.lo => exact absurd rfl h
  case gpr.gpr i j => exact s.readGpr_writeGpr_other v fun hj => h (congrArg RegName.gpr hj)
  all_goals rfl

/-- Settles O56: a registry set writes the place of its name, and otherwise ends the run only. -/
theorem registrySetThenGet : Obligations.RegistrySetThenGet := fun s r _ v _ =>
  ⟨registryGet_registrySet_same s r v, registryGet_registrySet_other s v, rfl, registrySet_desc s r v,
    registrySet_pageSize s r v, registrySet_endian s r v, registrySet_cache s r v, registrySet_sink s r v,
    registrySet_mem s r v, rfl, rfl, rfl⟩

end Sys2Proof.Machine
end
